-- ==== Sys2Proof/Word.lean ====
section
/-! DEFINITION. The word types of the block (00_scope.md R8, R10): every integer is unsigned. -/

namespace Sys2Proof

/-- `Byte` of 00_scope.md R10: 0..255. -/
abbrev Byte := BitVec 8

/-- `U16` of R10: the width of the CRC register (R15, R92). -/
abbrev U16 := BitVec 16

/-- `U24` of R10: what `decode3` produces (R93, R101). -/
abbrev U24 := BitVec 24

/-- `U32` of R10: what `decode4` produces and a result register holds (R25, R94). -/
abbrev U32 := BitVec 32

end Sys2Proof
end

