-- ==== Sys2Proof/Syntax.lean ====
section
/-! DEFINITION. The instruction set as data: one constructor of `Instr` for each of the 45 rows of
spec/opcode_table.json (30_encoding.md R57, R59, R62, R68, R76), and the words it is read from. -/

namespace Sys2Proof

/-- `Variant` of 00_scope.md R10: the expected shape of a reply, fixed by the command sent (R59, R69). -/
inductive Variant
  | status | triple | triple3 | sumTriple3 | sumQuad3
  deriving DecidableEq, Repr

/-- A triple: the three bytes of a packed field in wire order (R40). -/
structure Triple where
  b0 : Byte
  b1 : Byte
  b2 : Byte
  deriving DecidableEq, Repr

/-- A quad: the four bytes of a packed field in wire order (R41). -/
structure Quad where
  b0 : Byte
  b1 : Byte
  b2 : Byte
  b3 : Byte
  deriving DecidableEq, Repr

/-- The three fixed periods of the energy reads (R63). -/
inductive Period
  | reset | yesterday | today
  deriving DecidableEq, Repr

/-- The instructions: host operations, the ten pseudo-operations, the reserved codes, the outgoing frame layouts
and the reply layouts, in the order of spec/opcode_table.json. -/
inductive Instr
  /-- `CRC16 bytes` (R84) -/
  | crc16 (bytes : List Byte)
  /-- `DECODE3 b0, b1, b2, scale` (R93) -/
  | decode3 (b0 b1 b2 : Byte) (scale : Nat)
  /-- `DECODE4 b0, b1, b2, b3, scale` (R94) -/
  | decode4 (b0 b1 b2 b3 : Byte) (scale : Nat)
  /-- `BUILD_TEST` (R103) -/
  | buildTest
  /-- `BUILD_INIT` (R104) -/
  | buildInit
  /-- `BUILD_CLOSE` (R105) -/
  | buildClose
  /-- `BUILD_READ cmd, paramId, subIndex` (R106) -/
  | buildRead (cmd paramId subIndex : Byte)
  /-- `VALIDATE buffer, v` (R117); `v` is the operand's numeric code (R77) -/
  | validate (v : Byte) (buffer : List Byte)
  /-- `VERIFY` (R132) -/
  | verify
  /-- `INIT` (R133) -/
  | init
  /-- `READ m` (R134); `m` is the operand's numeric code (R77) -/
  | read (m : Byte)
  /-- `READ_U` = `READ 1` (R76, R142) -/
  | readU
  /-- `READ_I` = `READ 2` -/
  | readI
  /-- `READ_COSF` = `READ 3` -/
  | readCosf
  /-- `READ_FREQ` = `READ 4` -/
  | readFreq
  /-- `READ_ANGLE` = `READ 5` -/
  | readAngle
  /-- `READ_P` = `READ 6` -/
  | readP
  /-- `READ_Q` = `READ 7` -/
  | readQ
  /-- `READ_E_RESET` = `READ 8` -/
  | readEReset
  /-- `READ_E_YDAY` = `READ 9` -/
  | readEYday
  /-- `READ_E_TODAY` = `READ 10` -/
  | readEToday
  /-- `CLOSE` (R135) -/
  | close
  /-- `COLLECT` (R147) -/
  | collect
  /-- `HOP` 0xD (R72) -/
  | reservedD
  /-- `HOP` 0xE (R72) -/
  | reservedE
  /-- `HOP` 0xF (R72) -/
  | reservedF
  /-- The TestChannel frame (R57, R103); address and CRC are filled in by the builder -/
  | frameTest
  /-- The Initialize frame (R57, R104) -/
  | frameInit
  /-- The Close frame (R57, R105) -/
  | frameClose
  /-- The generic ReadParameter frame (R57, R106) -/
  | frameRead (cmd paramId subIndex : Byte)
  /-- The voltage read frame (R107) -/
  | frameReadU
  /-- The current read frame (R108) -/
  | frameReadI
  /-- The power-factor read frame (R109) -/
  | frameReadCosf
  /-- The frequency read frame (R110) -/
  | frameReadFreq
  /-- The phase-angle read frame (R111) -/
  | frameReadAngle
  /-- The active-power read frame (R112) -/
  | frameReadP
  /-- The reactive-power read frame (R113) -/
  | frameReadQ
  /-- The energy read frame, since reset (R114) -/
  | frameReadEReset
  /-- The energy read frame, yesterday (R114) -/
  | frameReadEYday
  /-- The energy read frame, today (R114) -/
  | frameReadEToday
  /-- A single-status reply (R59, R121) -/
  | vStatus (addr status : Byte) (crc : U16)
  /-- A one-triple reply (R59, R122) -/
  | vTriple (addr : Byte) (value : Triple) (crc : U16)
  /-- A three-phase reply (R59, R123) -/
  | vTriple3 (addr : Byte) (p1 p2 p3 : Triple) (crc : U16)
  /-- A three-phase reply with sum, the sum first (R59, R124) -/
  | vSumTriple3 (addr : Byte) (sum p1 p2 p3 : Triple) (crc : U16)
  /-- A three-phase reply of quads with sum, the sum first (R59, R125) -/
  | vSumQuad3 (addr : Byte) (sum p1 p2 p3 : Quad) (crc : U16)
  deriving DecidableEq, Repr

/-- One transfer on the host port, before decoding. DESIGN CHOICE (log 2): the spec fixes no pin-level format
(R62). A frame's bytes do not say which way it goes or which of the three energy rows it is (R69, R79, and the opcode
table's note that these rows' patterns coincide), so the transfer says it beside the bytes. -/
inductive PortWord
  /-- a select byte and the operand bytes after it -/
  | hostOp (bytes : List Byte)
  /-- an outgoing frame in wire order (R57), told apart as R78 says -/
  | frameOut (bytes : List Byte)
  /-- an outgoing read-energy-counters frame in wire order, as the row of the period told (R63, R114) -/
  | energyOut (period : Period) (bytes : List Byte)
  /-- a reply frame in wire order, with the variant expected (R59, R69) -/
  | frameIn (v : Variant) (bytes : List Byte)
  deriving DecidableEq, Repr

/-- Why a transfer is no encoding of any instruction. -/
inductive DecodeError
  /-- a host operation without a select byte -/
  | emptyTransfer
  /-- a select byte that is neither a `HOP` code (0x00 to 0x0F) nor a packed `READ m` (0xA1 to 0xAA) -/
  | unknownSelect (b : Byte)
  /-- an operand byte is missing -/
  | missingOperand
  /-- bytes follow the last operand -/
  | extraOperand
  /-- a length that is not the frame's fixed length (R57, R59) -/
  | badFrameLength
  /-- length and command byte are no frame of R78 -/
  | badFrameCommand
  deriving DecidableEq, Repr

end Sys2Proof
end

