-- ==== Sys2Proof/WellFormed.lean ====
section
/-! DEFINITION. Which terms of `Instr` the encoding admits as they stand. The generic ReadParameter layout has ten
instances with rows of their own (opcode_table.json, FRAME_READ's note; 30_encoding.md R61, R78): a generic frame
whose bytes are a read-current-values instance's is that instance, so the generic term for it is ill formed. (A generic
frame of command 0x05 is read-energy-counters with the bytes it has; which energy row it equals depends on OPEN constants,
so it is a term of its own.) Operand values outside an
operation's domain (R72) are NOT ill formed: the operation is issued and ends `Refused`. -/

namespace Sys2Proof

/-- The sub-index bytes that select a quantity of a read-current-values frame (R61). -/
def curvalSubIndexes : List Byte := [0x11, 0x21, 0x30, 0x40, 0x51, 0x00, 0x08]

/-- No command 0x08 with a sub-index that selects a quantity (R61, R78). -/
def genericReadOk (cmd subIndex : Byte) : Bool := !(cmd == 0x08 && curvalSubIndexes.contains subIndex)

/-- The instruction is the canonical term for its words. -/
def Instr.wellFormed : Instr → Bool
  | .crc16 _ => true
  | .decode3 _ _ _ _ => true
  | .decode4 _ _ _ _ _ => true
  | .buildTest => true
  | .buildInit => true
  | .buildClose => true
  | .buildRead _ _ _ => true
  | .validate _ _ => true
  | .verify => true
  | .init => true
  | .read _ => true
  | .readU => true
  | .readI => true
  | .readCosf => true
  | .readFreq => true
  | .readAngle => true
  | .readP => true
  | .readQ => true
  | .readEReset => true
  | .readEYday => true
  | .readEToday => true
  | .close => true
  | .collect => true
  | .reservedD => true
  | .reservedE => true
  | .reservedF => true
  | .frameTest => true
  | .frameInit => true
  | .frameClose => true
  | .frameRead cmd _ subIndex => genericReadOk cmd subIndex
  | .frameReadU => true
  | .frameReadI => true
  | .frameReadCosf => true
  | .frameReadFreq => true
  | .frameReadAngle => true
  | .frameReadP => true
  | .frameReadQ => true
  | .frameReadEReset => true
  | .frameReadEYday => true
  | .frameReadEToday => true
  | .vStatus _ _ _ => true
  | .vTriple _ _ _ => true
  | .vTriple3 _ _ _ _ _ => true
  | .vSumTriple3 _ _ _ _ _ _ => true
  | .vSumQuad3 _ _ _ _ _ _ => true

end Sys2Proof
end

