-- ==== Sys2Proof/Decode.lean ====
section
/-! DEFINITION. From the words of a transfer to the instruction, total and rejecting by name, and back
(30_encoding.md R57, R59, R62, R68, R72, R77, R78; the transfer's form is log 2's). -/

namespace Sys2Proof

/-- `lo8` of 00_scope.md R8. -/
def lo8 (v : U16) : Byte := v.extractLsb' 0 8

/-- `hi8` of R8. -/
def hi8 (v : U16) : Byte := v.extractLsb' 8 8

/-- Two bytes read low byte first as a 16-bit number (20_memory.md R39). -/
def le16 (lo hi : Byte) : U16 := lo.setWidth 16 ||| (hi.setWidth 16 <<< 8)

/-- The three bytes of a triple in wire order (R40). -/
def Triple.bytes (t : Triple) : List Byte := [t.b0, t.b1, t.b2]

/-- The four bytes of a quad in wire order (R41). -/
def Quad.bytes (q : Quad) : List Byte := [q.b0, q.b1, q.b2, q.b3]

/-- The two bytes of a CRC field in wire order, low byte first (R39). -/
def crcBytes (c : U16) : List Byte := [lo8 c, hi8 c]

/-- A `scale` operand from its bytes, least significant first, any number of them (log 2). -/
def natOfBytes : List Byte → Nat
  | [] => 0
  | b :: bs => b.toNat + 256 * natOfBytes bs

/-- The bytes of `n`, least significant first, at most `fuel` of them. -/
def bytesOfNatAux : Nat → Nat → List Byte
  | 0, _ => []
  | fuel + 1, n => if n = 0 then [] else BitVec.ofNat 8 n :: bytesOfNatAux fuel (n / 256)

/-- The bytes of a `scale` operand, least significant first, no leading zero (log 2). -/
def bytesOfNat (n : Nat) : List Byte := bytesOfNatAux n n

/-- An operation without operands has no byte after its select byte. -/
def withoutOperands (i : Instr) : List Byte → Except DecodeError Instr
  | [] => .ok i
  | _ :: _ => .error .extraOperand

/-- An operation of one operand byte. -/
def withOneOperand (f : Byte → Instr) : List Byte → Except DecodeError Instr
  | [] => .error .missingOperand
  | [a] => .ok (f a)
  | _ :: _ :: _ => .error .extraOperand

/-- A host operation from its select byte and operand bytes: `HOP` in 0x00 to 0x0F (R62), or `HOP` 0xA packed with
`m` in 1 to 10 (opcode_table.json, the ten `READ_` rows). A reserved code is what it is whatever follows it (R72). -/
def decodeSelect (sel : Byte) (ops : List Byte) : Except DecodeError Instr :=
  match sel with
  | 0x00#8 => .ok (.crc16 ops)
  | 0x01#8 =>
    match ops with
    | b0 :: b1 :: b2 :: scale => .ok (.decode3 b0 b1 b2 (natOfBytes scale))
    | _ => .error .missingOperand
  | 0x02#8 =>
    match ops with
    | b0 :: b1 :: b2 :: b3 :: scale => .ok (.decode4 b0 b1 b2 b3 (natOfBytes scale))
    | _ => .error .missingOperand
  | 0x03#8 => withoutOperands .buildTest ops
  | 0x04#8 => withoutOperands .buildInit ops
  | 0x05#8 => withoutOperands .buildClose ops
  | 0x06#8 =>
    match ops with
    | [cmd, paramId, subIndex] => .ok (.buildRead cmd paramId subIndex)
    | _ :: _ :: _ :: _ :: _ => .error .extraOperand
    | _ => .error .missingOperand
  | 0x07#8 =>
    match ops with
    | v :: buffer => .ok (.validate v buffer)
    | [] => .error .missingOperand
  | 0x08#8 => withoutOperands .verify ops
  | 0x09#8 => withoutOperands .init ops
  | 0x0A#8 => withOneOperand .read ops
  | 0x0B#8 => withoutOperands .close ops
  | 0x0C#8 => withoutOperands .collect ops
  | 0x0D#8 => .ok .reservedD
  | 0x0E#8 => .ok .reservedE
  | 0x0F#8 => .ok .reservedF
  | 0xA1#8 => withoutOperands .readU ops
  | 0xA2#8 => withoutOperands .readI ops
  | 0xA3#8 => withoutOperands .readCosf ops
  | 0xA4#8 => withoutOperands .readFreq ops
  | 0xA5#8 => withoutOperands .readAngle ops
  | 0xA6#8 => withoutOperands .readP ops
  | 0xA7#8 => withoutOperands .readQ ops
  | 0xA8#8 => withoutOperands .readEReset ops
  | 0xA9#8 => withoutOperands .readEYday ops
  | 0xAA#8 => withoutOperands .readEToday ops
  | _ => .error (.unknownSelect sel)

/-- A host operation's transfer. -/
def decodeHostOp : List Byte → Except DecodeError Instr
  | [] => .error .emptyTransfer
  | sel :: ops => decodeSelect sel ops

/-- A read-current-values frame: the quantity is given by the sub-index alone (R61, R78). -/
def decodeCurval (paramId subIndex : Byte) : Instr :=
  match subIndex with
  | 0x11#8 => .frameReadU
  | 0x21#8 => .frameReadI
  | 0x30#8 => .frameReadCosf
  | 0x40#8 => .frameReadFreq
  | 0x51#8 => .frameReadAngle
  | 0x00#8 => .frameReadP
  | 0x08#8 => .frameReadQ
  | _ => .frameRead 0x08 paramId subIndex

/-- An outgoing frame, told apart by its length and its command byte (R78). One of command 0x05 is read-energy-counters by its
bytes alone: the generic frame with its own `paramId` and sub-index bytes, which carry period, month and tariff (R63). The address and the CRC are not looked
at: the opcode table's masks leave them out, and the builder fills them in (log 9). -/
def decodeFrameOut : List Byte → Except DecodeError Instr
  | [_, cmd, _, _] =>
    if cmd = 0x00 then .ok .frameTest
    else if cmd = 0x02 then .ok .frameClose
    else .error .badFrameCommand
  | [_, cmd, paramId, subIndex, _, _] =>
    if cmd = 0x08 then .ok (decodeCurval paramId subIndex)
    else .ok (.frameRead cmd paramId subIndex)
  | [_, cmd, _, _, _, _, _, _, _, _, _] =>
    if cmd = 0x01 then .ok .frameInit else .error .badFrameCommand
  | _ => .error .badFrameLength

/-- The energy frame of a period (R114). -/
def energyFrame : Period → Instr
  | .reset => .frameReadEReset
  | .yesterday => .frameReadEYday
  | .today => .frameReadEToday

/-- An outgoing read-energy-counters frame as the row of the period told (R60, R114): its `paramId` and sub-index are the
constants of that row, which its mask leaves out (log 9). -/
def decodeEnergyOut (period : Period) : List Byte → Except DecodeError Instr
  | [_, cmd, _, _, _, _] => if cmd = 0x05 then .ok (energyFrame period) else .error .badFrameCommand
  | _ => .error .badFrameLength

/-- A reply frame of the variant told, at exactly its fixed length (R59, R69). -/
def decodeFrameIn : Variant → List Byte → Except DecodeError Instr
  | .status, [addr, status, lo, hi] => .ok (.vStatus addr status (le16 lo hi))
  | .triple, [addr, a0, a1, a2, lo, hi] => .ok (.vTriple addr ⟨a0, a1, a2⟩ (le16 lo hi))
  | .triple3, [addr, a0, a1, a2, b0, b1, b2, c0, c1, c2, lo, hi] =>
    .ok (.vTriple3 addr ⟨a0, a1, a2⟩ ⟨b0, b1, b2⟩ ⟨c0, c1, c2⟩ (le16 lo hi))
  | .sumTriple3, [addr, s0, s1, s2, a0, a1, a2, b0, b1, b2, c0, c1, c2, lo, hi] =>
    .ok (.vSumTriple3 addr ⟨s0, s1, s2⟩ ⟨a0, a1, a2⟩ ⟨b0, b1, b2⟩ ⟨c0, c1, c2⟩ (le16 lo hi))
  | .sumQuad3, [addr, s0, s1, s2, s3, a0, a1, a2, a3, b0, b1, b2, b3, c0, c1, c2, c3, lo, hi] =>
    .ok (.vSumQuad3 addr ⟨s0, s1, s2, s3⟩ ⟨a0, a1, a2, a3⟩ ⟨b0, b1, b2, b3⟩ ⟨c0, c1, c2, c3⟩ (le16 lo hi))
  | _, _ => .error .badFrameLength

/-- The decoder: total on every transfer. -/
def decode : PortWord → Except DecodeError Instr
  | .hostOp bytes => decodeHostOp bytes
  | .frameOut bytes => decodeFrameOut bytes
  | .energyOut period bytes => decodeEnergyOut period bytes
  | .frameIn v bytes => decodeFrameIn v bytes

/-- The words of an instruction, from the same tables. The bytes of an outgoing frame that the builder fills in
(address, CRC, the OPEN constants) are 0 here, as in the opcode table's match patterns. -/
def encode : Instr → PortWord
  | .crc16 bytes => .hostOp (0x00 :: bytes)
  | .decode3 b0 b1 b2 scale => .hostOp (0x01 :: b0 :: b1 :: b2 :: bytesOfNat scale)
  | .decode4 b0 b1 b2 b3 scale => .hostOp (0x02 :: b0 :: b1 :: b2 :: b3 :: bytesOfNat scale)
  | .buildTest => .hostOp [0x03]
  | .buildInit => .hostOp [0x04]
  | .buildClose => .hostOp [0x05]
  | .buildRead cmd paramId subIndex => .hostOp [0x06, cmd, paramId, subIndex]
  | .validate v buffer => .hostOp (0x07 :: v :: buffer)
  | .verify => .hostOp [0x08]
  | .init => .hostOp [0x09]
  | .read m => .hostOp [0x0A, m]
  | .readU => .hostOp [0xA1]
  | .readI => .hostOp [0xA2]
  | .readCosf => .hostOp [0xA3]
  | .readFreq => .hostOp [0xA4]
  | .readAngle => .hostOp [0xA5]
  | .readP => .hostOp [0xA6]
  | .readQ => .hostOp [0xA7]
  | .readEReset => .hostOp [0xA8]
  | .readEYday => .hostOp [0xA9]
  | .readEToday => .hostOp [0xAA]
  | .close => .hostOp [0x0B]
  | .collect => .hostOp [0x0C]
  | .reservedD => .hostOp [0x0D]
  | .reservedE => .hostOp [0x0E]
  | .reservedF => .hostOp [0x0F]
  | .frameTest => .frameOut [0, 0x00, 0, 0]
  | .frameInit => .frameOut [0, 0x01, 0, 0, 0, 0, 0, 0, 0, 0, 0]
  | .frameClose => .frameOut [0, 0x02, 0, 0]
  | .frameRead cmd paramId subIndex => .frameOut [0, cmd, paramId, subIndex, 0, 0]
  | .frameReadU => .frameOut [0, 0x08, 0, 0x11, 0, 0]
  | .frameReadI => .frameOut [0, 0x08, 0, 0x21, 0, 0]
  | .frameReadCosf => .frameOut [0, 0x08, 0, 0x30, 0, 0]
  | .frameReadFreq => .frameOut [0, 0x08, 0, 0x40, 0, 0]
  | .frameReadAngle => .frameOut [0, 0x08, 0, 0x51, 0, 0]
  | .frameReadP => .frameOut [0, 0x08, 0, 0x00, 0, 0]
  | .frameReadQ => .frameOut [0, 0x08, 0, 0x08, 0, 0]
  | .frameReadEReset => .energyOut .reset [0, 0x05, 0, 0, 0, 0]
  | .frameReadEYday => .energyOut .yesterday [0, 0x05, 0, 0, 0, 0]
  | .frameReadEToday => .energyOut .today [0, 0x05, 0, 0, 0, 0]
  | .vStatus addr status crc => .frameIn .status (addr :: status :: crcBytes crc)
  | .vTriple addr value crc => .frameIn .triple (addr :: value.bytes ++ crcBytes crc)
  | .vTriple3 addr p1 p2 p3 crc => .frameIn .triple3 (addr :: p1.bytes ++ p2.bytes ++ p3.bytes ++ crcBytes crc)
  | .vSumTriple3 addr sum p1 p2 p3 crc =>
    .frameIn .sumTriple3 (addr :: sum.bytes ++ p1.bytes ++ p2.bytes ++ p3.bytes ++ crcBytes crc)
  | .vSumQuad3 addr sum p1 p2 p3 crc =>
    .frameIn .sumQuad3 (addr :: sum.bytes ++ p1.bytes ++ p2.bytes ++ p3.bytes ++ crcBytes crc)

/-- The `n` bytes of a table word, the first byte on the wire leftmost: opcode_table.json numbers a frame's bits with
"offset 0 leftmost". -/
def tableBytes (n w : Nat) : List Byte :=
  (List.range n).map fun i => BitVec.ofNat 8 (w >>> (8 * (n - 1 - i)))

/-- How many operand bytes of zeros a host operation takes after a select byte that the table gives alone. -/
def zeroOperands (sel : Byte) : List Byte :=
  match sel with
  | 0x01#8 => [0, 0, 0]
  | 0x02#8 => [0, 0, 0, 0]
  | 0x06#8 => [0, 0, 0]
  | 0x07#8 => [0]
  | 0x0A#8 => [0]
  | _ => []

/-- The transfer that an instruction word of the opcode table stands for. A table word of 4 bytes that is no
outgoing frame is a status reply; one of 6 bytes is an outgoing frame; an energy frame stands for its first row,
"since reset" (log 11). -/
def portWordOfTable (nbits w : Nat) : PortWord :=
  if nbits ≤ 8 then
    let sel := BitVec.ofNat 8 w
    .hostOp (sel :: zeroOperands sel)
  else if nbits ≤ 32 then
    let bytes := tableBytes 4 w
    match decodeFrameOut bytes with
    | .ok _ => .frameOut bytes
    | .error _ => .frameIn .status bytes
  else if nbits ≤ 48 then
    let bytes := tableBytes 6 w
    if bytes.getD 1 0 = 0x05 then .energyOut .reset bytes else .frameOut bytes
  else if nbits ≤ 88 then .frameOut (tableBytes 11 w)
  else if nbits ≤ 96 then .frameIn .triple3 (tableBytes 12 w)
  else if nbits ≤ 120 then .frameIn .sumTriple3 (tableBytes 15 w)
  else if nbits ≤ 152 then .frameIn .sumQuad3 (tableBytes 19 w)
  else .hostOp []

/-- The instruction the decoder reads from a table word. -/
def decodeTableWord (nbits w : Nat) : Option Instr :=
  match decode (portWordOfTable nbits w) with
  | .ok i => some i
  | .error _ => none

end Sys2Proof
end

