-- ==== Sys2Proof/Config.lean ====
section
/-! DEFINITION. The parameters of the block (00_scope.md R7, 10_state.md R24) and the free values.
A parameter the spec marks OPEN, and a value it leaves free, is a constant without a body: nothing in Lean can
evaluate it, so whatever is proved holds for every value of it (R7: "the model is a function of it"). -/

namespace Sys2Proof.Config

/-- `TX_MAX` (R7, R16, R58). -/
def txMax : Nat := 11

/-- `RX_MAX` (R7, R17, R55). -/
def rxMax : Nat := 32

/-- `CRC_INIT` (R7, R85). -/
def crcInit : U16 := 0xFFFF

/-- `CRC_POLY` (R7, R87). -/
def crcPoly : U16 := 0xA001

/-- `ADDR_DEFAULT` (R7, R22). -/
def addrDefault : Byte := 0x00

/-- `SCALE_100` (R7, R99). -/
def scale100 : Nat := 100

/-- `SCALE_1000` (R7, R99). -/
def scale1000 : Nat := 1000

/-- `ACCESS_LEVEL`, OPEN (R7, R104). -/
opaque accessLevel : Byte

/-- `PASSWORD[0..5]`, OPEN; `PASSWORD[0]` is sent first (R7, R104). -/
opaque password : Fin 6 → Byte

/-- `CURVAL_PARAM_ID`, OPEN (R7, R61). -/
opaque curvalParamId : Byte

/-- `PERIOD_RESET`, OPEN, a 4-bit value (R7, R63). -/
opaque periodReset : BitVec 4

/-- `PERIOD_YESTERDAY`, OPEN, a 4-bit value (R7, R63). -/
opaque periodYesterday : BitVec 4

/-- `PERIOD_TODAY`, OPEN, a 4-bit value (R7, R63). -/
opaque periodToday : BitVec 4

/-- `MONTH`, OPEN, a 4-bit value (R7, R63). -/
opaque month : BitVec 4

/-- `TARIFF`, OPEN (R7, R63). -/
opaque tariff : Byte

/-- `T_CH` less one unit, OPEN. -/
opaque tChPred : Nat

/-- `T_CH`, OPEN: a positive duration (R7, R136). No rule depends on its value (R198). -/
def tCh : Nat := tChPred + 1

/-- `T_REPLY` less one unit, OPEN. -/
opaque tReplyPred : Nat

/-- `T_REPLY`, OPEN: a positive duration, perhaps equal to `T_CH` (R7, R136). -/
def tReply : Nat := tReplyPred + 1

/-- `T_SETTLE`, OPEN: a duration that may be zero (R7, R37, R137). -/
opaque tSettle : Nat

/-- `FLOAT_ROUND`, OPEN: a total function from the exact quotient to a code of the consumer's number format
(R7, R96; log 15). -/
opaque floatRound : Rat → Nat

/-- `DUMP_FORMAT`, OPEN: what the debug trace port emits for one byte sequence (R7, R146, R182). -/
opaque dumpFormat : List Byte → List Byte

/-- How many bytes of a `bytes` operand the host port carries beyond `RX_MAX`, left to an implementation
(R72, R84, N17; log 13). -/
opaque portExtra : Nat

/-- How many bytes a `bytes` operand of `CRC16` may have (R72: "longer than the host port can carry").
DEDUCED to be at least `RX_MAX`, the length `VALIDATE`'s operand may have (R117; log 13). -/
def portMax : Nat := rxMax + portExtra

/-- Free value: what the channel answers to its n-th read where State holds no scripted answer (R12, U1; log 5). -/
opaque freeAnswer : Nat → List Byte

/-- Free value: the n-th free word that a host read draws on, of a register in flux or of one that has no value (R29, R33, U5, U6;
log 7, log 8). -/
opaque freeRegister : Nat → U32

end Sys2Proof.Config
end

