-- ==== Sys2Proof/Machine/State.lean ====
section
/-! DEFINITION. The state of the block (10_state.md R14), the agents' coming moves, the outcomes of an operation
(00_scope.md R13), and the state after reset (10_state.md R32, 70_reset_and_hazards.md R186). -/

namespace Sys2Proof.Machine

/-- `SESS`: the session state (R20, R131). -/
inductive Session
  | closed | channelVerified | initialized | reading
  deriving DecidableEq, Repr

/-- `PHASE`: the position inside one exchange (R27). -/
inductive Phase
  | idle | sending | settling | waiting | validating
  deriving DecidableEq, Repr

/-- The error kinds (60_exceptions.md R161). -/
inductive ErrKind
  | wrongResultSize
  | wrongCrc
  | protocolError (code : BitVec 4)
  | channelTimeout
  | midSessionTimeout
  deriving DecidableEq, Repr

/-- `Response` (00_scope.md R10). -/
inductive Response
  | status (code : BitVec 4)
  | triple (value : Triple)
  | triple3 (p1 p2 p3 : Triple)
  | sumTriple3 (sum p1 p2 p3 : Triple)
  | sumQuad3 (sum p1 p2 p3 : Quad)
  deriving DecidableEq, Repr

/-- The reasons of a refusal (00_scope.md R13). -/
inductive RefuseReason
  | reservedOp | badOperand | badSequence | scaleZero | busy
  deriving DecidableEq, Repr

/-- What an operation that completes returns. -/
inductive OpValue
  /-- of `CRC16` -/
  | u16 (v : U16)
  /-- `Scaled`: the exact rational `raw / scale` (R10, R95) -/
  | scaled (raw scale : Nat)
  /-- the frame a builder left in `TX` (R102) -/
  | frame (bytes : List Byte)
  /-- of `VALIDATE` -/
  | response (r : Response)
  /-- `Ok` of a transport operation, and of a configuration write -/
  | done
  /-- `Ok(Complete)` of `COLLECT` (R155) -/
  | complete
  /-- `Ok(AllZero)` of `COLLECT` (R150) -/
  | allZero
  /-- a register read by the host -/
  | word (v : U32)
  /-- `PHASE` read by the host: the spec gives it no numeric code -/
  | phaseIs (p : Phase)
  deriving DecidableEq, Repr

/-- The outcome of an operation on the host port (00_scope.md R13). -/
inductive OpResult
  | ok (value : OpValue)
  | err (e : ErrKind)
  | refused (reason : RefuseReason)
  deriving DecidableEq, Repr

/-- Which timeout bounds a read (44_transport.md R136). -/
inductive Timeout
  | ch | reply
  deriving DecidableEq, Repr

/-- One access to the channel, in the order of 20_memory.md R48, or a reset, which abandons an exchange (R185). -/
inductive ChanEvent
  /-- `ChanWrite` (R35) -/
  | write (bytes : List Byte)
  /-- `Delay(T_SETTLE)` (R37) -/
  | settle
  /-- `ChanRead` and what it returned (R36) -/
  | read (timeout : Timeout) (bytes : List Byte)
  /-- reset (R185) -/
  | reset
  deriving DecidableEq, Repr

/-- A register the host may read: every one of R14 (R29). -/
inductive HostReg
  | crc
  | tx (i : Fin 11)
  | txLen
  | rx (i : Fin 32)
  | rxLen
  | err
  | status
  | rfs
  | sess
  | step
  | cfgAddr
  | cfgDump
  | res (i : Fin 34)
  | busy
  | phase
  deriving DecidableEq, Repr

/-- What the host tries while an operation is in progress (R28, R29, R194). -/
inductive Attempt
  | issue (w : PortWord)
  | writeAddr (v : Byte)
  | writeDump (v : Bool)
  | readReg (r : HostReg)
  deriving DecidableEq, Repr

/-- One action of the host (R11, R184). -/
inductive HostEvent
  /-- an operation is issued; `attempts` is what the host tries while it runs -/
  | issue (w : PortWord) (attempts : List Attempt)
  /-- an operation is issued and reset comes while it runs: `attempts` is what the host tries before the reset; `whole` of
  the operation's channel accesses are over and, where the next one is a write, `part` of its bytes are out (R185; log 18) -/
  | issueThenReset (w : PortWord) (attempts : List Attempt) (whole part : Nat)
  | writeAddr (v : Byte)
  | writeDump (v : Bool)
  | readReg (r : HostReg)
  | reset
  deriving DecidableEq, Repr

/-- The contents of a frame buffer: (offset, byte) cells, offsets strictly rising. An offset that is not listed is an
unspecified byte of R16, R17, R33: a host read of it returns a free value (log 7). -/
abbrev Memory := List Host.Cell

/-- Why the machine stops: for no reason. The spec gives the block no trap and no halt (60_exceptions.md R161, R170, R173); what
R33 calls a fault of the host program is recorded in `State.hostFaults`, and the machine goes on. -/
inductive Fault
  deriving DecidableEq, Repr

/-- Why the model declines a step. -/
inductive Refusal
  /-- Raised by an arm of exec whose instruction has no meaning yet. Safe. No arm of this model raises it. -/
  | notModelled (mnemonic : String)
  /-- Raised by the step for a transfer on the host port that is no encoding of any instruction: the spec fixes no
  pin-level format and gives such a transfer no effect (R62; log 3). Safe. -/
  | undecodable (e : DecodeError)
  deriving DecidableEq, Repr

/-- The whole state. -/
structure State where
  /-- `CRC` (R15) -/
  crc : U16
  /-- whether `CRC` has been written since reset (R33; log 6) -/
  crcWritten : Bool
  /-- `TX` (R16) -/
  tx : Memory
  /-- `TXLEN` (R16) -/
  txLen : Nat
  /-- `RX` (R17) -/
  rx : Memory
  /-- `RXLEN` (R17) -/
  rxLen : Nat
  /-- `ERR` (R18, R161) -/
  err : BitVec 3
  /-- `STATUS` (R18) -/
  status : BitVec 4
  /-- `RFS` (R19) -/
  rfs : Bool
  /-- `SESS` (R20) -/
  sess : Session
  /-- `STEP` (R21) -/
  step : BitVec 4
  /-- `CFG_ADDR` (R22) -/
  cfgAddr : Byte
  /-- `CFG_DUMP` (R23) -/
  cfgDump : Bool
  /-- `RES[0..33]` (R25) -/
  res : Vector U32 34
  /-- `BUSY` (R28) -/
  busy : Bool
  /-- `PHASE` (R27) -/
  phase : Phase
  /-- the host's coming actions, first one first (R11; log 1) -/
  port : List HostEvent
  /-- the channel's coming answers, one for each read (R12, R75; log 5) -/
  chanIn : List (List Byte)
  /-- how many channel reads have been made: the index of the next free answer (log 14) -/
  reads : Nat
  /-- how many free register values have been read: the index of the next one (log 14) -/
  freeReads : Nat
  /-- the accesses to the channel so far (R48; log 17) -/
  chanLog : List ChanEvent
  /-- the byte sequences presented on the debug trace port so far (R182; log 16) -/
  trace : List (List Byte)
  /-- the outcomes returned on the host port so far (R13; log 17) -/
  rets : List OpResult
  /-- the faults of the host program so far: the registers it has read at `BUSY` = 0 while they had no value (R33; log 7) -/
  hostFaults : List HostReg
  deriving DecidableEq, Repr

/-- The machine after reset (R32, R186); `CRC`'s value is log 6's. -/
def State.reset : State where
  crc := 0
  crcWritten := false
  tx := []
  txLen := 0
  rx := []
  rxLen := 0
  err := 0
  status := 0
  rfs := false
  sess := .closed
  step := 0
  cfgAddr := Config.addrDefault
  cfgDump := false
  res := Vector.replicate 34 0
  busy := false
  phase := .idle
  port := []
  chanIn := []
  reads := 0
  freeReads := 0
  chanLog := []
  trace := []
  rets := []
  hostFaults := []

end Sys2Proof.Machine
end

