-- ==== Sys2Proof/Machine/Operands.lean ====
section
/-! DEFINITION. The operand forms: numeric codes, fields of a frame at their offsets, the measurement table, and the
bodies (address and payload, everything but the CRC) of the command frames. -/

namespace Sys2Proof.Machine

/-- `size(v)` (30_encoding.md R59). -/
def variantSize : Variant → Nat
  | .status => 4
  | .triple => 6
  | .triple3 => 12
  | .sumTriple3 => 15
  | .sumQuad3 => 19

/-- The numeric code of a variant (R77). -/
def variantCode : Variant → Nat
  | .status => 0
  | .triple => 1
  | .triple3 => 2
  | .sumTriple3 => 3
  | .sumQuad3 => 4

/-- The variant a code names; 5 and above name none (R72, R77). -/
def variantOfCode (v : Byte) : Option Variant :=
  match v with
  | 0#8 => some .status
  | 1#8 => some .triple
  | 2#8 => some .triple3
  | 3#8 => some .sumTriple3
  | 4#8 => some .sumQuad3
  | _ => none

/-- The numeric code of a session state (R20, D13). -/
def sessionCode : Session → BitVec 2
  | .closed => 0
  | .channelVerified => 1
  | .initialized => 2
  | .reading => 3

/-- The numeric code of an error kind (R18, R161); 0 is `None`. -/
def errCode : ErrKind → BitVec 3
  | .wrongResultSize => 1
  | .wrongCrc => 2
  | .protocolError _ => 3
  | .channelTimeout => 4
  | .midSessionTimeout => 5

/-- The duration a timeout names (R7, R136); no rule depends on it (R198). -/
def timeoutDuration : Timeout → Nat
  | .ch => Config.tCh
  | .reply => Config.tReply

/-- The status code of a status byte: bits 3:0, bits 7:4 ignored (R65, R120). -/
def statusCode (b : Byte) : BitVec 4 := b.extractLsb' 0 4

/-- Byte `i` of a buffer. Read only below the buffer's length, which is checked first (R118, R129). -/
def byteAt (bytes : List Byte) (i : Nat) : Byte := bytes.getD i 0

/-- The triple field at offset `o` (R66). -/
def tripleAt (bytes : List Byte) (o : Nat) : Triple :=
  ⟨byteAt bytes o, byteAt bytes (o + 1), byteAt bytes (o + 2)⟩

/-- The quad field at offset `o` (R66). -/
def quadAt (bytes : List Byte) (o : Nat) : Quad :=
  ⟨byteAt bytes o, byteAt bytes (o + 1), byteAt bytes (o + 2), byteAt bytes (o + 3)⟩

/-- The bytes a frame's CRC covers: all but the last two (R56, R119). -/
def coveredBytes (bytes : List Byte) : List Byte := bytes.take (bytes.length - 2)

/-- The CRC field: the last two bytes, low byte first (R39, R119). -/
def trailer (bytes : List Byte) : U16 :=
  le16 (byteAt bytes (bytes.length - 2)) (byteAt bytes (bytes.length - 1))

/-- The ten measurements (R68, R76). -/
inductive Meas
  | u | i | cosf | freq | angle | p | q | eReset | eYday | eToday
  deriving DecidableEq, Repr

/-- Which decoder a measurement's fields go to (R68, R99). -/
inductive Decoder
  | decode3 | decode4
  deriving DecidableEq, Repr

/-- `m` (R68). -/
def measNumber : Meas → Nat
  | .u => 1
  | .i => 2
  | .cosf => 3
  | .freq => 4
  | .angle => 5
  | .p => 6
  | .q => 7
  | .eReset => 8
  | .eYday => 9
  | .eToday => 10

/-- The measurement a selector names; 0 and above 10 name none (R72, R77). -/
def measOfCode (m : Byte) : Option Meas :=
  match m with
  | 1#8 => some .u
  | 2#8 => some .i
  | 3#8 => some .cosf
  | 4#8 => some .freq
  | 5#8 => some .angle
  | 6#8 => some .p
  | 7#8 => some .q
  | 8#8 => some .eReset
  | 9#8 => some .eYday
  | 10#8 => some .eToday
  | _ => none

/-- `READ 1` to `READ 10` in the order `COLLECT` runs them (R148). -/
def allMeas : List Meas := [.u, .i, .cosf, .freq, .angle, .p, .q, .eReset, .eYday, .eToday]

/-- The column "variant" (R68). -/
def measVariant : Meas → Variant
  | .u => .triple3
  | .i => .triple3
  | .cosf => .sumTriple3
  | .freq => .triple
  | .angle => .triple3
  | .p => .sumTriple3
  | .q => .sumTriple3
  | .eReset => .sumQuad3
  | .eYday => .sumQuad3
  | .eToday => .sumQuad3

/-- The column "decoder" (R68, R99). -/
def measDecoder : Meas → Decoder
  | .u => .decode3
  | .i => .decode3
  | .cosf => .decode3
  | .freq => .decode3
  | .angle => .decode3
  | .p => .decode3
  | .q => .decode3
  | .eReset => .decode4
  | .eYday => .decode4
  | .eToday => .decode4

/-- The column "scale" (R68, R99). -/
def measScale : Meas → Nat
  | .u => Config.scale100
  | .i => Config.scale1000
  | .cosf => Config.scale1000
  | .freq => Config.scale100
  | .angle => Config.scale100
  | .p => Config.scale1000
  | .q => Config.scale1000
  | .eReset => Config.scale1000
  | .eYday => Config.scale1000
  | .eToday => Config.scale1000

/-- The first register of the column "destination" (R25, R68). -/
def measDest : Meas → Nat
  | .u => 0
  | .i => 3
  | .cosf => 6
  | .freq => 10
  | .angle => 11
  | .p => 14
  | .q => 18
  | .eReset => 22
  | .eYday => 26
  | .eToday => 30

/-- How many registers the column "destination" names (R26, R68). -/
def measCount : Meas → Nat
  | .u => 3
  | .i => 3
  | .cosf => 4
  | .freq => 1
  | .angle => 3
  | .p => 4
  | .q => 4
  | .eReset => 4
  | .eYday => 4
  | .eToday => 4

/-- The `paramId` of a read-energy-counters frame: `((period << 4) | month)[7:0]` (R63). -/
def energyParamId (period month : BitVec 4) : Byte :=
  (period.setWidth 8 <<< 4) ||| month.setWidth 8

/-- The three payload bytes of a measurement's read frame: the columns "cmd", "paramId", "subIndex" (R61, R63, R68). -/
def measPayload : Meas → List Byte
  | .u => [0x08, Config.curvalParamId, 0x11]
  | .i => [0x08, Config.curvalParamId, 0x21]
  | .cosf => [0x08, Config.curvalParamId, 0x30]
  | .freq => [0x08, Config.curvalParamId, 0x40]
  | .angle => [0x08, Config.curvalParamId, 0x51]
  | .p => [0x08, Config.curvalParamId, 0x00]
  | .q => [0x08, Config.curvalParamId, 0x08]
  | .eReset => [0x05, energyParamId Config.periodReset Config.month, Config.tariff]
  | .eYday => [0x05, energyParamId Config.periodYesterday Config.month, Config.tariff]
  | .eToday => [0x05, energyParamId Config.periodToday Config.month, Config.tariff]

/-- The payload of a TestChannel frame (R57, R103). -/
def testPayload : List Byte := [0x00]

/-- The payload of an Initialize frame (R57, R104). -/
def initPayload : List Byte :=
  [0x01, Config.accessLevel, Config.password 0, Config.password 1, Config.password 2, Config.password 3,
    Config.password 4, Config.password 5]

/-- The payload of a Close frame (R57, R105). -/
def closePayload : List Byte := [0x02]

/-- `scale(i)` of result register `i` (10_state.md R25). -/
def resScale (i : Nat) : Nat :=
  if i ≤ 2 then Config.scale100
  else if i ≤ 9 then Config.scale1000
  else if i ≤ 13 then Config.scale100
  else Config.scale1000

/-- The exact rational a pair `(raw, scale)` denotes (R95, R101). -/
def scaledValue (raw scale : Nat) : Rat := (raw : Rat) / (scale : Rat)

/-- What a consumer outside the block reports for a pair: `FLOAT_ROUND` of the exact quotient (R96). -/
def reportedValue (raw scale : Nat) : Nat := Config.floatRound (scaledValue raw scale)

end Sys2Proof.Machine
end

