-- ==== Sys2Proof/Machine/Flags.lean ====
section
/-! DEFINITION. The flag registers `ERR`, `STATUS` and `RFS`, and every computation that writes one of them
(10_state.md R18, R19). -/

namespace Sys2Proof.Machine

/-- `ERR <- None; STATUS <- 0`: the start of every transport operation and of `COLLECT` (R18, R130, R145, R147). -/
def State.clearErr (s : State) : State := { s with err := 0, status := 0 }

/-- `ERR <- code(e)` (R18, R170). -/
def State.latchErr (e : ErrKind) (s : State) : State := { s with err := errCode e }

/-- `STATUS <- code` (R18, R130). -/
def State.latchStatus (code : BitVec 4) (s : State) : State := { s with status := code }

/-- The status code an error kind carries, if it carries one (R170). -/
def carriedCode : ErrKind → Option (BitVec 4)
  | .protocolError code => some code
  | .wrongResultSize => none
  | .wrongCrc => none
  | .channelTimeout => none
  | .midSessionTimeout => none

/-- `STATUS <- code carried by e, if e is ProtocolError` (R170). -/
def State.latchCarried (e : ErrKind) (s : State) : State :=
  match carriedCode e with
  | some code => s.latchStatus code
  | none => s

/-- `RFS <- 1` (R19). -/
def State.setRfs (s : State) : State := { s with rfs := true }

end Sys2Proof.Machine
end

