-- ==== Sys2Proof/Machine/Ops.lean ====
section
/-! DEFINITION. The operations the meanings are built from: the two buffers, the registers, the channel's three
primitives, the outcome of an operation, and raising an error (60_exceptions.md R170), which is this hardware's taking
of an exception. There is no return from one: "No return, no resume" (R173). -/

namespace Sys2Proof.Machine

/-! ### The frame buffers (R16, R17, R38) -/

/-- The byte at an offset, if the offset has one. -/
def Memory.read : Memory → Nat → Option Byte
  | [], _ => none
  | (k, b) :: rest, a => if k = a then some b else Memory.read rest a

/-- The contents of a buffer that holds `bytes` from offset `o`, and nothing else. -/
def Memory.ofBytesFrom : Nat → List Byte → Memory
  | _, [] => []
  | o, b :: bs => (o, b) :: Memory.ofBytesFrom (o + 1) bs

/-- The contents of a buffer that holds `bytes` from offset 0. -/
def Memory.ofBytes (bytes : List Byte) : Memory := Memory.ofBytesFrom 0 bytes

/-- `MemRead(BUF+0, n)`: the bytes at offsets 0 to `n-1` (R9). -/
def Memory.bytes (m : Memory) (n : Nat) : List Byte := (List.range n).filterMap m.read

/-- The canonical form: offsets strictly rising. -/
def Memory.wf : Memory → Bool
  | [] => true
  | [_] => true
  | (k, _) :: (k', b') :: rest => decide (k < k') && Memory.wf ((k', b') :: rest)

/-- `TX[0..TXLEN)`. -/
def State.txBytes (s : State) : List Byte := s.tx.bytes s.txLen

/-- `RX[0..RXLEN)`. -/
def State.rxBytes (s : State) : List Byte := s.rx.bytes s.rxLen

/-- `TX` holds a frame: the build replaces it whole (R16, R102). -/
def State.putTx (bytes : List Byte) (s : State) : State :=
  { s with tx := Memory.ofBytes bytes, txLen := bytes.length }

/-- `RX[0..len(b)) <- b; RXLEN <- len(b)` (R36, R117). -/
def State.putRx (bytes : List Byte) (s : State) : State :=
  { s with rx := Memory.ofBytes bytes, rxLen := bytes.length }

/-! ### The registers -/

/-- `CRC <- c` (R15). -/
def State.setCrc (c : U16) (s : State) : State := { s with crc := c, crcWritten := true }

/-- `SESS <- x` (R20). -/
def State.setSess (x : Session) (s : State) : State := { s with sess := x }

/-- `PHASE <- p` (R27). -/
def State.setPhase (p : Phase) (s : State) : State := { s with phase := p }

/-- `STEP <- k` (R21). -/
def State.setStep (k : Nat) (s : State) : State := { s with step := BitVec.ofNat 4 k }

/-- `RES[0..33] <- 0` (R149). -/
def State.zeroRes (s : State) : State := { s with res := Vector.replicate 34 0 }

/-- The registers `RES[d..d+k)` take the `k` values, all at once; the others keep theirs (R26, R126). -/
def groupWritten (d : Nat) (raws : List U32) (res : Vector U32 34) : Vector U32 34 :=
  res.mapIdx fun i old => if d ≤ i ∧ i < d + raws.length then raws.getD (i - d) old else old

/-- A group of `RES` is written (R26). -/
def State.writeGroup (d : Nat) (raws : List U32) (s : State) : State :=
  { s with res := groupWritten d raws s.res }

/-! ### The channel (20_memory.md R35 to R37) -/

/-- What the debug trace port is given when `bytes` pass (R23, R146). -/
def State.dumped (bytes : List Byte) (s : State) : List (List Byte) :=
  if s.cfgDump then s.trace ++ [bytes] else s.trace

/-- `ChanWrite(TX[0..TXLEN))` (R35): no register changes. -/
def State.chanWrite (s : State) : State :=
  { s with chanLog := s.chanLog ++ [.write s.txBytes], trace := s.dumped s.txBytes }

/-- `Delay(T_SETTLE)` (R37): no register changes. -/
def State.settle (s : State) : State := { s with chanLog := s.chanLog ++ [.settle] }

/-- What the next `ChanRead` returns: 0 to `RX_MAX` bytes of the channel's choosing (R12, R36; log 5). -/
def State.chanReply (s : State) : List Byte :=
  (match s.chanIn with
    | answer :: _ => answer
    | [] => Config.freeAnswer s.reads).take Config.rxMax

/-- `ChanRead(timeout)` (R36): the bytes go to `RX`; no byte at all is an expired timeout. -/
def State.chanRead (t : Timeout) (s : State) : State :=
  let b := s.chanReply
  { s.putRx b with
    chanIn := s.chanIn.tail
    reads := s.reads + 1
    chanLog := s.chanLog ++ [.read t b]
    trace := s.dumped b }

/-! ### Raising an error (R170) -/

/-- `abort(e)`: the error kind is latched, the session is closed, the exchange is over; nothing is sent and no other
register changes. -/
def State.abort (e : ErrKind) (s : State) : State :=
  (((s.latchErr e).latchCarried e).setSess .closed).setPhase .idle

/-! ### The outcome of an operation (R13, R28) -/

/-- An operation's work on the state, with its outcome. -/
abbrev Op := State → OpResult × State

/-- `refuse reason`: nothing changes but `RFS` (R13, R167). -/
def refuse (reason : RefuseReason) : Op := fun s => (.refused reason, s.setRfs)

/-- The outcome goes to the host port. -/
def State.giveBack (r : OpResult) (s : State) : State := { s with rets := s.rets ++ [r] }

/-- `BUSY <- b` (R28). -/
def State.setBusy (b : Bool) (s : State) : State := { s with busy := b }

/-- `Refused(Busy)`: what anything tried while `BUSY` = 1 comes to (R28, R194). -/
def State.refuseBusy (s : State) : State := s.setRfs.giveBack (.refused .busy)

/-- The operation returns: its outcome is given back and `BUSY` falls (R28). -/
def returned (p : OpResult × State) : State := (p.2.setBusy false).giveBack p.1

/-- The host issues an operation: refused while another is in progress, otherwise run to its return (R28, R138). -/
def issue (op : Op) (s : State) : Host.Outcome State Fault Refusal :=
  .next (if s.busy then s.refuseBusy else returned (op (s.setBusy true)))

end Sys2Proof.Machine
end

