-- ==== Sys2Proof/Machine/Crc.lean ====
section
/-! DEFINITION. The CRC Engine (40_crc.md): `CRC16`. -/

namespace Sys2Proof.Machine

/-- `crc_bit` (R87): bit 0 is tested before the logical shift. -/
def crcBit (c : U16) : U16 :=
  if c.getLsbD 0 then (c >>> 1) ^^^ Config.crcPoly else c >>> 1

/-- `n` bit steps. -/
def crcBits : Nat → U16 → U16
  | 0, c => c
  | n + 1, c => crcBits n (crcBit c)

/-- `crc_byte` (R86): the byte is zero-extended and XORed in, then eight bit steps follow. -/
def crcByte (c : U16) (b : Byte) : U16 := crcBits 8 (c ^^^ b.setWidth 16)

/-- `crc16` (R84, R85, R88): every computation starts from `CRC_INIT`; no final XOR. -/
def crc16 (bytes : List Byte) : U16 := bytes.foldl crcByte Config.crcInit

/-- The CRC operation: it leaves its value in `CRC` (R15, R84). -/
def State.runCrc (bytes : List Byte) (s : State) : State := s.setCrc (crc16 bytes)

/-- Whether the host port carries a `bytes` operand of `n` bytes (R72, R84; log 13). A length up to `RX_MAX` is asked
about first, so that it is decided without the value of `Config.portExtra`. -/
def portCarries (n : Nat) : Bool := decide (n ≤ Config.rxMax) || decide (n ≤ Config.portMax)

/-- `CRC16 bytes` (R84); longer than the host port carries is refused (R72). -/
def crc16Op (bytes : List Byte) : Op := fun s =>
  if portCarries bytes.length then (.ok (.u16 (crc16 bytes)), s.runCrc bytes)
  else refuse .badOperand s

/-- `CRC16` (R84). -/
def execCrc16 (bytes : List Byte) (s : State) : Host.Outcome State Fault Refusal := issue (crc16Op bytes) s

end Sys2Proof.Machine
end

