-- ==== Sys2Proof/Machine/Build.lean ====
section
/-! DEFINITION. The Frame Codec, build side (42_frame_build.md): `BUILD_TEST`, `BUILD_INIT`, `BUILD_CLOSE`,
`BUILD_READ`. -/

namespace Sys2Proof.Machine

/-- A fully formed frame: the body and its CRC, low byte first (R56, R64, R102). -/
def frameOf (body : List Byte) : List Byte := body ++ crcBytes (crc16 body)

/-- `build([CFG_ADDR] ++ payload)` (R102): `TX`, `TXLEN` and `CRC` are written. The address is `CFG_ADDR` at the time of
the build (R47, R116). -/
def State.build (payload : List Byte) (s : State) : State :=
  (s.runCrc (s.cfgAddr :: payload)).putTx (frameOf (s.cfgAddr :: payload))

/-- A builder cannot fail; it returns the frame it left in `TX` (R102). -/
def buildOp (payload : List Byte) : Op := fun s =>
  (.ok (.frame (s.build payload).txBytes), s.build payload)

/-- `BUILD_TEST` (R103). -/
def execBuildTest (s : State) : Host.Outcome State Fault Refusal := issue (buildOp testPayload) s

/-- `BUILD_INIT` (R104). -/
def execBuildInit (s : State) : Host.Outcome State Fault Refusal := issue (buildOp initPayload) s

/-- `BUILD_CLOSE` (R105). -/
def execBuildClose (s : State) : Host.Outcome State Fault Refusal := issue (buildOp closePayload) s

/-- `BUILD_READ cmd, paramId, subIndex` (R106): any three bytes. -/
def execBuildRead (cmd paramId subIndex : Byte) (s : State) : Host.Outcome State Fault Refusal :=
  issue (buildOp [cmd, paramId, subIndex]) s

end Sys2Proof.Machine
end

