-- ==== Sys2Proof/Machine/Decoders.lean ====
section
/-! DEFINITION. The Value Decoders (41_decoders.md): `DECODE3`, `DECODE4`. -/

namespace Sys2Proof.Machine

/-- The integer a triple denotes: `b0 << 16 | b2 << 8 | b1` (R40, R93). -/
def tripleRaw (t : Triple) : U24 :=
  (t.b0.setWidth 24 <<< 16) ||| (t.b2.setWidth 24 <<< 8) ||| t.b1.setWidth 24

/-- The integer a quad denotes: `b1 << 24 | b0 << 16 | b3 << 8 | b2` (R41, R94). -/
def quadRaw (q : Quad) : U32 :=
  (q.b1.setWidth 32 <<< 24) ||| (q.b0.setWidth 32 <<< 16) ||| (q.b3.setWidth 32 <<< 8) ||| q.b2.setWidth 32

/-- A decode: refused for scale 0, otherwise the exact pair (R93 to R97). No register is written (R98). -/
def decodeOp (raw scale : Nat) : Op := fun s =>
  if scale = 0 then refuse .scaleZero s else (.ok (.scaled raw scale), s)

/-- `DECODE3` (R93). -/
def execDecode3 (b0 b1 b2 : Byte) (scale : Nat) (s : State) : Host.Outcome State Fault Refusal :=
  issue (decodeOp (tripleRaw ⟨b0, b1, b2⟩).toNat scale) s

/-- `DECODE4` (R94). -/
def execDecode4 (b0 b1 b2 b3 : Byte) (scale : Nat) (s : State) : Host.Outcome State Fault Refusal :=
  issue (decodeOp (quadRaw ⟨b0, b1, b2, b3⟩).toNat scale) s

end Sys2Proof.Machine
end

