-- ==== Sys2Proof/Machine/Validate.lean ====
section
/-! DEFINITION. The Frame Codec, validate side (43_frame_validate.md): `VALIDATE`. -/

namespace Sys2Proof.Machine

/-- What `validate` comes to: `Response | Error` (R117). -/
inductive Checked
  | pass (r : Response)
  | fail (e : ErrKind)
  deriving DecidableEq, Repr

/-- Step 1, size: exact equality (R118). -/
def sizeOk (v : Variant) (bytes : List Byte) : Bool := bytes.length == variantSize v

/-- Step 2, CRC: over everything before the trailer, all sixteen bits compared (R119). -/
def crcOk (bytes : List Byte) : Bool := crc16 (coveredBytes bytes) == trailer bytes

/-- Field extraction (R121 to R125). -/
def parse (v : Variant) (bytes : List Byte) : Response :=
  match v with
  | .status => .status (statusCode (byteAt bytes 1))
  | .triple => .triple (tripleAt bytes 1)
  | .triple3 => .triple3 (tripleAt bytes 1) (tripleAt bytes 4) (tripleAt bytes 7)
  | .sumTriple3 => .sumTriple3 (tripleAt bytes 1) (tripleAt bytes 4) (tripleAt bytes 7) (tripleAt bytes 10)
  | .sumQuad3 => .sumQuad3 (quadAt bytes 1) (quadAt bytes 5) (quadAt bytes 9) (quadAt bytes 13)

/-- The status code of a status reply that passed size and CRC (R18, R120, R130). -/
def statusSeen (v : Variant) (bytes : List Byte) : Option (BitVec 4) :=
  if v = .status ∧ sizeOk v bytes ∧ crcOk bytes then some (statusCode (byteAt bytes 1)) else none

/-- `validate` (R117): the checks in the order size, CRC, status; the first that fails decides (R168). -/
def validate (v : Variant) (bytes : List Byte) : Checked :=
  if sizeOk v bytes = false then .fail .wrongResultSize
  else if crcOk bytes = false then .fail .wrongCrc
  else if v = .status ∧ statusCode (byteAt bytes 1) ≠ 0 then .fail (.protocolError (statusCode (byteAt bytes 1)))
  else .pass (parse v bytes)

/-- What `validate` writes: `CRC`, once the size check has passed (R117, R161). -/
def State.crcChecked (v : Variant) (s : State) : State :=
  if sizeOk v s.rxBytes then s.runCrc (coveredBytes s.rxBytes) else s

/-- The outcome of `validate` as a host operation (R117). -/
def checkedResult : Checked → OpResult
  | .pass r => .ok (.response r)
  | .fail e => .err e

/-- `VALIDATE` on a variant: the buffer is loaded into `RX` and checked there; no abort, no flag (R117, R170). -/
def validateOp (v : Variant) (buffer : List Byte) : Op := fun s =>
  (checkedResult (validate v (s.putRx buffer).rxBytes), (s.putRx buffer).crcChecked v)

/-- `VALIDATE buffer, v` with its operands' domains: a variant code of 0 to 4, at most `RX_MAX` bytes (R72, R77,
R117). -/
def validateCodeOp (v : Byte) (buffer : List Byte) : Op := fun s =>
  match variantOfCode v with
  | none => refuse .badOperand s
  | some x => if buffer.length ≤ Config.rxMax then validateOp x buffer s else refuse .badOperand s

/-- `VALIDATE` (R117). -/
def execValidate (v : Byte) (buffer : List Byte) (s : State) : Host.Outcome State Fault Refusal :=
  issue (validateCodeOp v buffer) s

end Sys2Proof.Machine
end

