-- ==== Sys2Proof/Machine/Frames.lean ====
section
/-! DEFINITION. The wire frames as instructions (00_scope.md R1: the instruction set is the operations "together with
the set of wire frames they build and accept"). An outgoing frame's word makes the engine build that frame: the rule
its row cites is its builder's (42_frame_build.md R103 to R114; log 9). A reply's word is that reply loaded into `RX` and
validated against its variant (43_frame_validate.md R117, R121 to R125; log 10). -/

namespace Sys2Proof.Machine

/-- TestChannel (R103). -/
def execFrameTest (s : State) : Host.Outcome State Fault Refusal := issue (buildOp testPayload) s

/-- Initialize (R104). -/
def execFrameInit (s : State) : Host.Outcome State Fault Refusal := issue (buildOp initPayload) s

/-- Close (R105). -/
def execFrameClose (s : State) : Host.Outcome State Fault Refusal := issue (buildOp closePayload) s

/-- ReadParameter (R106). -/
def execFrameRead (cmd paramId subIndex : Byte) (s : State) : Host.Outcome State Fault Refusal :=
  issue (buildOp [cmd, paramId, subIndex]) s

/-- Voltage read frame (R107). -/
def execFrameReadU (s : State) : Host.Outcome State Fault Refusal := issue (buildOp (measPayload .u)) s

/-- Current read frame (R108). -/
def execFrameReadI (s : State) : Host.Outcome State Fault Refusal := issue (buildOp (measPayload .i)) s

/-- Power-factor read frame (R109). -/
def execFrameReadCosf (s : State) : Host.Outcome State Fault Refusal := issue (buildOp (measPayload .cosf)) s

/-- Frequency read frame (R110). -/
def execFrameReadFreq (s : State) : Host.Outcome State Fault Refusal := issue (buildOp (measPayload .freq)) s

/-- Phase-angle read frame (R111). -/
def execFrameReadAngle (s : State) : Host.Outcome State Fault Refusal := issue (buildOp (measPayload .angle)) s

/-- Active-power read frame (R112). -/
def execFrameReadP (s : State) : Host.Outcome State Fault Refusal := issue (buildOp (measPayload .p)) s

/-- Reactive-power read frame (R113). -/
def execFrameReadQ (s : State) : Host.Outcome State Fault Refusal := issue (buildOp (measPayload .q)) s

/-- Energy read frame, since reset (R114). -/
def execFrameReadEReset (s : State) : Host.Outcome State Fault Refusal := issue (buildOp (measPayload .eReset)) s

/-- Energy read frame, yesterday (R114). -/
def execFrameReadEYday (s : State) : Host.Outcome State Fault Refusal := issue (buildOp (measPayload .eYday)) s

/-- Energy read frame, today (R114). -/
def execFrameReadEToday (s : State) : Host.Outcome State Fault Refusal := issue (buildOp (measPayload .eToday)) s

/-- The bytes of a status reply in wire order (R59). -/
def statusReply (addr status : Byte) (crc : U16) : List Byte := addr :: status :: crcBytes crc

/-- The bytes of a reply of triples in wire order, in layout order (R59). -/
def triplesReply (addr : Byte) (fields : List Triple) (crc : U16) : List Byte :=
  addr :: fields.flatMap Triple.bytes ++ crcBytes crc

/-- The bytes of a reply of quads in wire order, in layout order (R59). -/
def quadsReply (addr : Byte) (fields : List Quad) (crc : U16) : List Byte :=
  addr :: fields.flatMap Quad.bytes ++ crcBytes crc

/-- `V_STATUS` (R121). -/
def execVStatus (addr status : Byte) (crc : U16) (s : State) : Host.Outcome State Fault Refusal :=
  issue (validateOp .status (statusReply addr status crc)) s

/-- `V_TRIPLE` (R122). -/
def execVTriple (addr : Byte) (value : Triple) (crc : U16) (s : State) : Host.Outcome State Fault Refusal :=
  issue (validateOp .triple (triplesReply addr [value] crc)) s

/-- `V_TRIPLE3` (R123). -/
def execVTriple3 (addr : Byte) (p1 p2 p3 : Triple) (crc : U16) (s : State) : Host.Outcome State Fault Refusal :=
  issue (validateOp .triple3 (triplesReply addr [p1, p2, p3] crc)) s

/-- `V_SUM_TRIPLE3` (R124). -/
def execVSumTriple3 (addr : Byte) (sum p1 p2 p3 : Triple) (crc : U16) (s : State) :
    Host.Outcome State Fault Refusal :=
  issue (validateOp .sumTriple3 (triplesReply addr [sum, p1, p2, p3] crc)) s

/-- `V_SUM_QUAD3` (R125). -/
def execVSumQuad3 (addr : Byte) (sum p1 p2 p3 : Quad) (crc : U16) (s : State) :
    Host.Outcome State Fault Refusal :=
  issue (validateOp .sumQuad3 (quadsReply addr [sum, p1, p2, p3] crc)) s

end Sys2Proof.Machine
end

