-- ==== Sys2Proof/Machine/Transport.lean ====
section
/-! DEFINITION. The Transport Session (44_transport.md): `VERIFY`, `INIT`, `READ` with its ten instances, `CLOSE`. -/

namespace Sys2Proof.Machine

/-- The first half of an exchange: build, write, settle, read (R130), with the phases of R27. -/
def State.transact (payload : List Byte) (t : Timeout) (s : State) : State :=
  let built := s.clearErr.build payload
  let sent := (built.setPhase .sending).chanWrite
  let settled := (sent.setPhase .settling).settle
  (settled.setPhase .waiting).chanRead t

/-- The second half: validate what the read returned. `CRC` is the recomputed value; `STATUS` takes the status code of
a status reply that passed size and CRC, before any raise (R130). -/
def State.examined (v : Variant) (s : State) : State :=
  let checked := (s.setPhase .validating).crcChecked v
  match statusSeen v checked.rxBytes with
  | some code => checked.latchStatus code
  | none => checked

/-- `exchange` (R130): one frame written, one read made, whatever happens. An empty read raises `silence`; a reply that
fails validation raises its kind; both abort (R170). -/
def exchange (payload : List Byte) (v : Variant) (t : Timeout) (silence : ErrKind) (s : State) : Checked × State :=
  let got := s.transact payload t
  if got.rxLen = 0 then (.fail silence, got.abort silence)
  else
    match validate v got.rxBytes with
    | .fail e => (.fail e, (got.examined v).abort e)
    | .pass r => (.pass r, (got.examined v).setPhase .idle)

/-- The end of a transport operation: an error goes to the caller; a response is handed on and the session moves. -/
def concluded (deliver : Response → State → State) (after : Session) (p : Checked × State) : OpResult × State :=
  match p.1 with
  | .fail e => (.err e, p.2)
  | .pass r => (.ok .done, (deliver r p.2).setSess after)

/-- A status reply has nothing to deliver. -/
def deliverNothing (_ : Response) (s : State) : State := s

/-- The raw values of a response's fields in layout order, zero-extended to 32 bits (R126). -/
def responseRaws : Response → List U32
  | .status _ => []
  | .triple value => [(tripleRaw value).setWidth 32]
  | .triple3 p1 p2 p3 => [(tripleRaw p1).setWidth 32, (tripleRaw p2).setWidth 32, (tripleRaw p3).setWidth 32]
  | .sumTriple3 sum p1 p2 p3 =>
    [(tripleRaw sum).setWidth 32, (tripleRaw p1).setWidth 32, (tripleRaw p2).setWidth 32, (tripleRaw p3).setWidth 32]
  | .sumQuad3 sum p1 p2 p3 => [quadRaw sum, quadRaw p1, quadRaw p2, quadRaw p3]

/-- `deliver(m, rsp)` (R126). Triples go to `decode3`, quads to `decode4`: the decoder column of R68 is the variant's. -/
def deliver (m : Meas) (r : Response) (s : State) : State := s.writeGroup (measDest m) (responseRaws r)

/-- `VERIFY` (R132): admitted in every session state. -/
def verifyOp : Op := fun s =>
  concluded deliverNothing .channelVerified (exchange testPayload .status .ch .channelTimeout s)

/-- `INIT` (R133). -/
def initOp : Op := fun s =>
  if s.sess = .channelVerified then
    concluded deliverNothing .initialized (exchange initPayload .status .reply .midSessionTimeout s)
  else refuse .badSequence s

/-- `READ m` for a measurement (R134, R142). -/
def readOp (m : Meas) : Op := fun s =>
  if s.sess = .initialized ∨ s.sess = .reading then
    concluded (deliver m) .reading (exchange (measPayload m) (measVariant m) .reply .midSessionTimeout s)
  else refuse .badSequence s

/-- `READ m` for a selector (R134). -/
def readCodeOp (m : Byte) : Op := fun s =>
  match measOfCode m with
  | none => refuse .badOperand s
  | some x => readOp x s

/-- `CLOSE` (R135): the session is released first, whatever the reply. -/
def closeOp : Op := fun s =>
  concluded deliverNothing .closed (exchange closePayload .status .reply .midSessionTimeout (s.setSess .closed))

/-- `VERIFY` (R132). -/
def execVerify (s : State) : Host.Outcome State Fault Refusal := issue verifyOp s

/-- `INIT` (R133). -/
def execInit (s : State) : Host.Outcome State Fault Refusal := issue initOp s

/-- `READ m` (R134). -/
def execRead (m : Byte) (s : State) : Host.Outcome State Fault Refusal := issue (readCodeOp m) s

/-- `READ_U` = `READ 1` (R76, R142). -/
def execReadU (s : State) : Host.Outcome State Fault Refusal := issue (readOp .u) s

/-- `READ_I` = `READ 2` (R76, R142). -/
def execReadI (s : State) : Host.Outcome State Fault Refusal := issue (readOp .i) s

/-- `READ_COSF` = `READ 3` (R76, R142). -/
def execReadCosf (s : State) : Host.Outcome State Fault Refusal := issue (readOp .cosf) s

/-- `READ_FREQ` = `READ 4` (R76, R142). -/
def execReadFreq (s : State) : Host.Outcome State Fault Refusal := issue (readOp .freq) s

/-- `READ_ANGLE` = `READ 5` (R76, R142). -/
def execReadAngle (s : State) : Host.Outcome State Fault Refusal := issue (readOp .angle) s

/-- `READ_P` = `READ 6` (R76, R142). -/
def execReadP (s : State) : Host.Outcome State Fault Refusal := issue (readOp .p) s

/-- `READ_Q` = `READ 7` (R76, R142). -/
def execReadQ (s : State) : Host.Outcome State Fault Refusal := issue (readOp .q) s

/-- `READ_E_RESET` = `READ 8` (R76, R142). -/
def execReadEReset (s : State) : Host.Outcome State Fault Refusal := issue (readOp .eReset) s

/-- `READ_E_YDAY` = `READ 9` (R76, R142). -/
def execReadEYday (s : State) : Host.Outcome State Fault Refusal := issue (readOp .eYday) s

/-- `READ_E_TODAY` = `READ 10` (R76, R142). -/
def execReadEToday (s : State) : Host.Outcome State Fault Refusal := issue (readOp .eToday) s

/-- `CLOSE` (R135). -/
def execClose (s : State) : Host.Outcome State Fault Refusal := issue closeOp s

end Sys2Proof.Machine
end

