-- ==== Sys2Proof/Machine/Orchestrator.lean ====
section
/-! DEFINITION. The Reading Orchestrator (45_orchestrator.md): `COLLECT`. -/

namespace Sys2Proof.Machine

/-- The start of `COLLECT` (R147, R149): flags cleared, every result register zero. -/
def State.collectStart (s : State) : State := s.clearErr.zeroRes

/-- The last step (R147, R154): `CLOSE` at `STEP` 13; success ends at `STEP` 14. -/
def collectClose : Op := fun s =>
  match closeOp (s.setStep 13) with
  | (.ok _, s') => (.ok .complete, s'.setStep 14)
  | stopped => stopped

/-- The reads that remain, each at its `STEP`, then the close; the first that does not succeed ends the sequence
(R147, R153, R157). -/
def collectReads : List Meas → Op
  | [], s => collectClose s
  | m :: ms, s =>
    match readOp m (s.setStep (2 + measNumber m)) with
    | (.ok _, s') => collectReads ms s'
    | stopped => stopped

/-- `INIT` at `STEP` 2, then the ten reads (R147, R151). -/
def collectInit : Op := fun s =>
  match initOp (s.setStep 2) with
  | (.ok _, s') => collectReads allMeas s'
  | stopped => stopped

/-- `COLLECT` (R147): silence at `VERIFY` is the degraded return `Ok(AllZero)` at `STEP` 14, with `ERR` left at
`ChannelTimeout` (R150, R174); any other error of `VERIFY` is an abort at `STEP` 1 (R151). -/
def collectOp : Op := fun s =>
  match verifyOp (s.collectStart.setStep 1) with
  | (.ok _, s') => collectInit s'
  | (.err .channelTimeout, s') => (.ok .allZero, s'.setStep 14)
  | stopped => stopped

/-- `COLLECT` (R147). -/
def execCollect (s : State) : Host.Outcome State Fault Refusal := issue collectOp s

end Sys2Proof.Machine
end

