-- ==== Sys2Proof/Machine/Reserved.lean ====
section
/-! DEFINITION. The reserved `HOP` codes (30_encoding.md R72): issuing one is `Refused(ReservedOp)`, an outcome of the
operation (00_scope.md R13), not a stop of the machine. -/

namespace Sys2Proof.Machine

/-- `HOP` 0xD (R72). -/
def execReservedD (s : State) : Host.Outcome State Fault Refusal := issue (refuse .reservedOp) s

/-- `HOP` 0xE (R72). -/
def execReservedE (s : State) : Host.Outcome State Fault Refusal := issue (refuse .reservedOp) s

/-- `HOP` 0xF (R72). -/
def execReservedF (s : State) : Host.Outcome State Fault Refusal := issue (refuse .reservedOp) s

end Sys2Proof.Machine
end

