-- ==== Sys2Proof/Machine/Dispatch.lean ====
section
/-! DEFINITION. Every instruction's meaning, one arm per constructor of Instr. -/

namespace Sys2Proof.Machine

def exec (i : Instr) (s : State) : Host.Outcome State Fault Refusal :=
  match i with
  -- host operations (30_encoding.md R62)
  | .crc16 bytes => Sys2Proof.Machine.execCrc16 bytes s
  | .decode3 b0 b1 b2 scale => Sys2Proof.Machine.execDecode3 b0 b1 b2 scale s
  | .decode4 b0 b1 b2 b3 scale => Sys2Proof.Machine.execDecode4 b0 b1 b2 b3 scale s
  | .buildTest => Sys2Proof.Machine.execBuildTest s
  | .buildInit => Sys2Proof.Machine.execBuildInit s
  | .buildClose => Sys2Proof.Machine.execBuildClose s
  | .buildRead cmd paramId subIndex => Sys2Proof.Machine.execBuildRead cmd paramId subIndex s
  | .validate v buffer => Sys2Proof.Machine.execValidate v buffer s
  | .verify => Sys2Proof.Machine.execVerify s
  | .init => Sys2Proof.Machine.execInit s
  | .read m => Sys2Proof.Machine.execRead m s
  -- the ten instances of READ (R76)
  | .readU => Sys2Proof.Machine.execReadU s
  | .readI => Sys2Proof.Machine.execReadI s
  | .readCosf => Sys2Proof.Machine.execReadCosf s
  | .readFreq => Sys2Proof.Machine.execReadFreq s
  | .readAngle => Sys2Proof.Machine.execReadAngle s
  | .readP => Sys2Proof.Machine.execReadP s
  | .readQ => Sys2Proof.Machine.execReadQ s
  | .readEReset => Sys2Proof.Machine.execReadEReset s
  | .readEYday => Sys2Proof.Machine.execReadEYday s
  | .readEToday => Sys2Proof.Machine.execReadEToday s
  | .close => Sys2Proof.Machine.execClose s
  | .collect => Sys2Proof.Machine.execCollect s
  -- reserved codes (R72)
  | .reservedD => Sys2Proof.Machine.execReservedD s
  | .reservedE => Sys2Proof.Machine.execReservedE s
  | .reservedF => Sys2Proof.Machine.execReservedF s
  -- outgoing frames (R57)
  | .frameTest => Sys2Proof.Machine.execFrameTest s
  | .frameInit => Sys2Proof.Machine.execFrameInit s
  | .frameClose => Sys2Proof.Machine.execFrameClose s
  | .frameRead cmd paramId subIndex => Sys2Proof.Machine.execFrameRead cmd paramId subIndex s
  | .frameReadU => Sys2Proof.Machine.execFrameReadU s
  | .frameReadI => Sys2Proof.Machine.execFrameReadI s
  | .frameReadCosf => Sys2Proof.Machine.execFrameReadCosf s
  | .frameReadFreq => Sys2Proof.Machine.execFrameReadFreq s
  | .frameReadAngle => Sys2Proof.Machine.execFrameReadAngle s
  | .frameReadP => Sys2Proof.Machine.execFrameReadP s
  | .frameReadQ => Sys2Proof.Machine.execFrameReadQ s
  | .frameReadEReset => Sys2Proof.Machine.execFrameReadEReset s
  | .frameReadEYday => Sys2Proof.Machine.execFrameReadEYday s
  | .frameReadEToday => Sys2Proof.Machine.execFrameReadEToday s
  -- replies (R59)
  | .vStatus addr status crc => Sys2Proof.Machine.execVStatus addr status crc s
  | .vTriple addr value crc => Sys2Proof.Machine.execVTriple addr value crc s
  | .vTriple3 addr p1 p2 p3 crc => Sys2Proof.Machine.execVTriple3 addr p1 p2 p3 crc s
  | .vSumTriple3 addr sum p1 p2 p3 crc => Sys2Proof.Machine.execVSumTriple3 addr sum p1 p2 p3 crc s
  | .vSumQuad3 addr sum p1 p2 p3 crc => Sys2Proof.Machine.execVSumQuad3 addr sum p1 p2 p3 crc s

end Sys2Proof.Machine
end

