-- ==== Sys2Proof/Machine/HostPort.lean ====
section
/-! DEFINITION. What the host does: operations issued (00_scope.md R11), configuration writes (70_reset_and_hazards.md R194),
register reads (10_state.md R29, R33), attempts while an operation is in progress (R28), and reset (R185). -/

namespace Sys2Proof.Machine

/-- A write of `CFG_ADDR`: only while `BUSY` = 0 (R22, R194). -/
def State.hostWriteAddr (v : Byte) (s : State) : State :=
  if s.busy then s.refuseBusy else { s with cfgAddr := v }.giveBack (.ok .done)

/-- A write of `CFG_DUMP`: only while `BUSY` = 0 (R23, R194). -/
def State.hostWriteDump (v : Bool) (s : State) : State :=
  if s.busy then s.refuseBusy else { s with cfgDump := v }.giveBack (.ok .done)

/-- A flag as a register value. -/
def bitValue (b : Bool) : OpValue := .word (if b then 1 else 0)

/-- The byte a buffer holds at an offset below its valid length; none at or above it (R33). -/
def bufferValue (m : Memory) (len i : Nat) : Option OpValue :=
  if i < len then (m.read i).map fun b => .word (b.setWidth 32) else none

/-- The value a register has; none where the spec gives it none (R29, R33). -/
def State.regValue (s : State) : HostReg → Option OpValue
  | .crc => if s.crcWritten then some (.word (s.crc.setWidth 32)) else none
  | .tx i => bufferValue s.tx s.txLen i.val
  | .txLen => some (.word (BitVec.ofNat 32 s.txLen))
  | .rx i => bufferValue s.rx s.rxLen i.val
  | .rxLen => some (.word (BitVec.ofNat 32 s.rxLen))
  | .err => some (.word (s.err.setWidth 32))
  | .status => some (.word (s.status.setWidth 32))
  | .rfs => some (bitValue s.rfs)
  | .sess => some (.word ((sessionCode s.sess).setWidth 32))
  | .step => some (.word (s.step.setWidth 32))
  | .cfgAddr => some (.word (s.cfgAddr.setWidth 32))
  | .cfgDump => some (bitValue s.cfgDump)
  | .res i => some (.word s.res[i])
  | .busy => some (bitValue s.busy)
  | .phase => some (.phaseIs s.phase)

/-- Whether a register is in flux while an operation is in progress, so that a read of it returns an unspecified value
(R29, U6; log 8). -/
def inFlux : HostReg → Bool
  | .crc => true
  | .tx _ => true
  | .txLen => true
  | .rx _ => true
  | .rxLen => true
  | .err => true
  | .status => true
  | .rfs => false
  | .sess => true
  | .step => true
  | .cfgAddr => false
  | .cfgDump => false
  | .res _ => true
  | .busy => false
  | .phase => true

/-- A phase for every number, each reached: a free phase for a free number. -/
def phaseOfNat (n : Nat) : Phase :=
  match n % 5 with
  | 0 => .idle
  | 1 => .sending
  | 2 => .settling
  | 3 => .waiting
  | _ => .validating

/-- A free value of a register's own range, from a free word: any value the register can hold (R29, R33; log 8). `PHASE` has no
numeric code, so a free value of it is a free phase, given by name (log 22). -/
def freeValue (r : HostReg) (v : U32) : OpValue :=
  match r with
  | .crc => .word ((v.setWidth 16).setWidth 32)
  | .tx _ => .word ((v.setWidth 8).setWidth 32)
  | .txLen => .word (BitVec.ofNat 32 (v.toNat % (Config.txMax + 1)))
  | .rx _ => .word ((v.setWidth 8).setWidth 32)
  | .rxLen => .word (BitVec.ofNat 32 (v.toNat % (Config.rxMax + 1)))
  | .err => .word ((v.setWidth 3).setWidth 32)
  | .status => .word ((v.setWidth 4).setWidth 32)
  | .rfs => .word ((v.setWidth 1).setWidth 32)
  | .sess => .word ((v.setWidth 2).setWidth 32)
  | .step => .word ((v.setWidth 4).setWidth 32)
  | .cfgAddr => .word ((v.setWidth 8).setWidth 32)
  | .cfgDump => .word ((v.setWidth 1).setWidth 32)
  | .res _ => .word v
  | .busy => .word ((v.setWidth 1).setWidth 32)
  | .phase => .phaseIs (phaseOfNat v.toNat)

/-- A host read that returns any value, possibly a different one each time (R29, R33): the next free value. -/
def State.freeRead (r : HostReg) (s : State) : State :=
  { s with freeReads := s.freeReads + 1 }.giveBack (.ok (freeValue r (Config.freeRegister s.freeReads)))

/-- A host read while `BUSY` = 1: a free value for a register in flux; `BUSY` itself reads 1 (R29). That `PHASE` is in flux,
and that the free value of it is a phase's name and no number, is the model's choice (log 8, log 22). -/
def State.readBusy (r : HostReg) (s : State) : State :=
  if inFlux r then s.freeRead r
  else
    match s.regValue r with
    | some v => s.giveBack (.ok v)
    | none => s.freeRead r

/-- A host read while `BUSY` = 0: no side effect (R45). A register or byte without a value "returns any value", and the read is "a
fault of the host program" (R33): it is recorded as one, and the machine goes on. -/
def State.readIdle (r : HostReg) (s : State) : State :=
  match s.regValue r with
  | some v => s.giveBack (.ok v)
  | none => { s with hostFaults := s.hostFaults ++ [r] }.freeRead r

/-- A host read (R29). -/
def State.hostRead (r : HostReg) (s : State) : State := if s.busy then s.readBusy r else s.readIdle r

/-- One thing the host tries while an operation is in progress: everything but a read is refused (R28, R194). -/
def State.attempt (a : Attempt) (s : State) : State :=
  match a with
  | .issue _ => s.refuseBusy
  | .writeAddr v => s.hostWriteAddr v
  | .writeDump v => s.hostWriteDump v
  | .readReg r => s.readBusy r

/-- What the host tries while the operation it has issued is in progress, `BUSY` being 1 from the issue to the return
(R28). A refused attempt writes `RFS` and a read writes no register, and the operation reads neither, so the moment
inside the operation does not matter (log 4). -/
def State.attempts (as : List Attempt) (s : State) : State :=
  (as.foldl (fun t a => t.attempt a) (s.setBusy true)).setBusy s.busy

/-- Reset (R185, R186): every register takes its reset value. What has passed on the channel, the trace port and the host
port has passed; what the other agents will do stays theirs (log 17). -/
def State.afterReset (s : State) : State :=
  { State.reset with
    port := s.port
    chanIn := s.chanIn
    reads := s.reads
    freeReads := s.freeReads
    chanLog := s.chanLog ++ [.reset]
    trace := s.trace
    rets := s.rets
    hostFaults := s.hostFaults }

/-- The channel accesses of an operation that reset cuts off: `whole` of them are over, and where the next one is a write
`part` of its bytes are out (R185). With `part` = 0 the write has not begun, so neither the channel nor the trace port has
anything of it; with a positive `part` both have the bytes that are out (the model's choice, log 18). -/
def cutAccesses : Nat → Nat → List ChanEvent → List ChanEvent
  | _, _, [] => []
  | 0, 0, .write _ :: _ => []
  | 0, part + 1, .write bytes :: _ => [.write (bytes.take (part + 1))]
  | 0, _, .settle :: _ => []
  | 0, _, .read _ _ :: _ => []
  | 0, _, .reset :: _ => []
  | whole + 1, part, e :: es => e :: cutAccesses whole part es

/-- How many of the accesses are reads. -/
def readsIn : List ChanEvent → Nat
  | [] => 0
  | .write _ :: es => readsIn es
  | .settle :: es => readsIn es
  | .read _ _ :: es => readsIn es + 1
  | .reset :: es => readsIn es

/-- The byte sequences that the accesses present on the trace port (R146). -/
def dumpedBy : List ChanEvent → List (List Byte)
  | [] => []
  | .write bytes :: es => bytes :: dumpedBy es
  | .settle :: es => dumpedBy es
  | .read _ bytes :: es => bytes :: dumpedBy es
  | .reset :: es => dumpedBy es

/-- Reset in the middle of an operation that, left alone, would have taken `s` to `done`: "an exchange in progress is
abandoned without transmitting further bytes, and bytes already written stay written" (R185). No rule says what the host port
gives back for an operation that reset abandons: the model gives back nothing (its choice, log 18). -/
def State.abandoned (whole part : Nat) (s done : State) : State :=
  let kept := cutAccesses whole part (done.chanLog.drop s.chanLog.length)
  { s with
    chanIn := s.chanIn.drop (readsIn kept)
    reads := s.reads + readsIn kept
    chanLog := s.chanLog ++ kept
    trace := if s.cfgDump then s.trace ++ dumpedBy kept else s.trace }.afterReset

/-- What the debug trace port shows: `DUMP_FORMAT` of each byte sequence presented (R146, R182). -/
def State.traceOutput (s : State) : List (List Byte) := s.trace.map Config.dumpFormat

/-- What a consumer outside the block reports for result register `i` (R25, R96). -/
def State.reported (s : State) (i : Fin 34) : Nat := reportedValue s.res[i].toNat (resScale i.val)

/-- The host issues the operation a transfer encodes, and tries `as` while it runs. -/
def runIssue (w : PortWord) (as : List Attempt) (s : State) : Host.Outcome State Fault Refusal :=
  match decode w with
  | .ok i => exec i (s.attempts as)
  | .error e => .refused (.undecodable e)

/-- The host issues the operation a transfer encodes, tries `as` while it runs, and then reset comes (R28, R185). -/
def runCut (w : PortWord) (as : List Attempt) (whole part : Nat) (s : State) : Host.Outcome State Fault Refusal :=
  match decode w with
  | .ok i =>
    match exec i (s.attempts as) with
    | .next done => .next (State.abandoned whole part (s.attempts as) done)
    | .fault r => .fault r
    | .refused r => .refused r
  | .error e => .refused (.undecodable e)

/-- One action of the host. -/
def hostAct (e : HostEvent) (s : State) : Host.Outcome State Fault Refusal :=
  match e with
  | .issue w as => runIssue w as s
  | .issueThenReset w as whole part => runCut w as whole part s
  | .writeAddr v => .next (s.hostWriteAddr v)
  | .writeDump v => .next (s.hostWriteDump v)
  | .readReg r => .next (s.hostRead r)
  | .reset => .next s.afterReset

end Sys2Proof.Machine
end

