-- ==== Sys2Proof/Machine/Step.lean ====
section
/-! DEFINITION. One step: the host's next action. The block fetches no program (10_state.md R20): it runs the operation
the host issues, and is idle while the host does nothing (70_reset_and_hazards.md R186; log 1). -/

namespace Sys2Proof.Machine

/-- One step of the machine. -/
def step (s : State) : Host.Outcome State Fault Refusal :=
  match s.port with
  | [] => .next s
  | e :: rest => hostAct e { s with port := rest }

/-- `s` with the instruction of a table word as the host's next action: the very next step runs it (log 1, log 11). -/
def State.withFetchWord (s : State) (nbits w : Nat) : State :=
  { s with port := .issue (portWordOfTable nbits w) [] :: s.port }

end Sys2Proof.Machine
end

