-- ==== Sys2Proof/Safety.lean ====
section
/-! DEFINITION. What counts as a safe run, and the terms the statements are written in: the invariant of the machine, the
half-duplex discipline on the channel, and the rules' own reading of a reply (60_exceptions.md R168), written beside the
machine and not with its operations. -/

namespace Sys2Proof.Machine

/-! ### The channel -/

/-- Where the bus stands between two accesses (20_memory.md R49). -/
inductive BusPhase
  | quiet | written | settled
  deriving DecidableEq, Repr

/-- The accesses that may follow: a write when the bus is quiet, the settle delay after the write, the read after the
delay (R48, R49, R50); a reset at any time (R185). -/
def busStep : BusPhase → ChanEvent → Option BusPhase
  | .quiet, .write _ => some .written
  | .written, .settle => some .settled
  | .settled, .read _ _ => some .quiet
  | _, .reset => some .quiet
  | _, _ => none

/-- The bus after a run of accesses, if each was one that may follow. -/
def busRun : BusPhase → List ChanEvent → Option BusPhase
  | p, [] => some p
  | p, e :: es =>
    match busStep p e with
    | some p' => busRun p' es
    | none => none

/-- Every exchange so far is one write, the settle delay and one read, in that order, or was cut off by reset. -/
def halfDuplex (log : List ChanEvent) : Prop := busRun .quiet log = some .quiet

/-- The frames written in a run of accesses. -/
def framesWritten (log : List ChanEvent) : List (List Byte) :=
  log.filterMap fun e =>
    match e with
    | .write bytes => some bytes
    | .settle => none
    | .read _ _ => none
    | .reset => none

/-- The payloads of the frames of a session in the order of 45_orchestrator.md R148: TestChannel, Initialize, the ten
reads, Close. -/
def sessionPayloads : List (List Byte) :=
  [testPayload, initPayload] ++ allMeas.map measPayload ++ [closePayload]

/-- The thirteen frames the engine can send to the meter of address `addr` (R70, R148). -/
def sessionFrames (addr : Byte) : List (List Byte) :=
  sessionPayloads.map fun payload => frameOf (addr :: payload)

/-! ### The invariant -/

/-- What every state a run reaches satisfies. -/
structure State.Inv (s : State) : Prop where
  /-- exactly the offsets below `TXLEN` hold a byte, and `TXLEN` is at most `TX_MAX` (R16) -/
  txCells : s.tx.map Prod.fst = List.range s.txLen
  txMax : s.txLen ≤ Config.txMax
  /-- exactly the offsets below `RXLEN` hold a byte, and `RXLEN` is at most `RX_MAX` (R17) -/
  rxCells : s.rx.map Prod.fst = List.range s.rxLen
  rxMax : s.rxLen ≤ Config.rxMax
  /-- `ERR` codes 6 and 7 are never produced (R18, R30) -/
  errLegal : s.err.toNat ≤ 5
  /-- `STATUS` is a nonzero code exactly when `ERR` is `ProtocolError` (R18) -/
  statusMeans : s.status ≠ 0 ↔ s.err = 3
  /-- an error leaves the session closed (R131, R170) -/
  errCloses : s.err ≠ 0 → s.sess = .closed
  /-- `STEP` is 0 to 14 (R21) -/
  stepLegal : s.step.toNat ≤ 14
  /-- no operation is in progress between two actions of the host (R27, R28) -/
  idle : s.busy = false ∧ s.phase = .idle
  /-- a result register fed by `decode3` holds a 24-bit value (R25) -/
  res24 : ∀ i : Fin 34, i.val < 22 → s.res[i].toNat < 2 ^ 24
  /-- the channel has been used as R49 says -/
  bus : halfDuplex s.chanLog

/-- A clean run: the host issued nothing the spec gives no meaning (R19) and read nothing that has no value (R33). -/
def State.clean (s : State) : Prop := s.rfs = false ∧ s.hostFaults = []

/-! ### Reading a reply, by the rules -/

/-- The error an exchange raises on the bytes its read returned, by the order of R168: empty read, size, CRC, status. -/
def replyError (v : Variant) (silence : ErrKind) (b : List Byte) : Option ErrKind :=
  if b.length = 0 then some silence
  else if b.length ≠ variantSize v then some .wrongResultSize
  else if crc16 (b.take (b.length - 2)) ≠ le16 (b.getD (b.length - 2) 0) (b.getD (b.length - 1) 0) then some .wrongCrc
  else if v = .status ∧ b.getD 1 0 &&& 0x0F ≠ 0 then some (.protocolError ((b.getD 1 0 &&& 0x0F).setWidth 4))
  else none

/-- The integer that field `j` of a reply denotes for a measurement (R40, R41, R66, R68). -/
def fieldRaw (m : Meas) (b : List Byte) (j : Nat) : Nat :=
  match measDecoder m with
  | .decode3 =>
    (b.getD (1 + 3 * j) 0).toNat * 65536 + (b.getD (3 + 3 * j) 0).toNat * 256 + (b.getD (2 + 3 * j) 0).toNat
  | .decode4 =>
    (b.getD (2 + 4 * j) 0).toNat * 16777216 + (b.getD (1 + 4 * j) 0).toNat * 65536
      + (b.getD (4 + 4 * j) 0).toNat * 256 + (b.getD (3 + 4 * j) 0).toNat

/-- `CRC` after an exchange (R117, R161, R171): recomputed over the reply once its size is right, else the built
frame's. -/
def crcLeft (payload : List Byte) (v : Variant) (s : State) : U16 :=
  if s.chanReply.length = variantSize v then crc16 (s.chanReply.take (s.chanReply.length - 2))
  else crc16 (s.cfgAddr :: payload)

/-- What every exchange leaves behind, whatever its outcome (R130): the frame in `TX`, the reply in `RX`, the three accesses
to the channel, what the trace port was given, and the flags cleared. -/
def State.exchanged (payload : List Byte) (v : Variant) (t : Timeout) (s : State) : State :=
  { s with
    crc := crcLeft payload v s
    crcWritten := true
    tx := Memory.ofBytes (frameOf (s.cfgAddr :: payload))
    txLen := payload.length + 3
    rx := Memory.ofBytes s.chanReply
    rxLen := s.chanReply.length
    err := 0
    status := 0
    phase := .idle
    chanIn := s.chanIn.tail
    reads := s.reads + 1
    chanLog := s.chanLog ++ [.write (frameOf (s.cfgAddr :: payload)), .settle, .read t s.chanReply]
    trace := if s.cfgDump then s.trace ++ [frameOf (s.cfgAddr :: payload), s.chanReply] else s.trace }

/-- What a build leaves (42_frame_build.md R102): address, payload and CRC, low byte first, in `TX`; `TXLEN` and `CRC`; the
frame returned; nothing else. -/
def State.builtWith (payload : List Byte) (s : State) : State :=
  let c := crc16 (s.cfgAddr :: payload)
  let frame := s.cfgAddr :: payload ++ [c.extractLsb' 0 8, c.extractLsb' 8 8]
  { s with
    crc := c
    crcWritten := true
    tx := Memory.ofBytes frame
    txLen := payload.length + 3
    rets := s.rets ++ [.ok (.frame frame)] }

/-- What a reply's word leaves (43_frame_validate.md R117): the reply in `RX`, the CRC of its body in `CRC`, the outcome
given back, nothing else. -/
def State.checkedWith (body : List Byte) (c : U16) (outcome : OpResult) (s : State) : State :=
  { s with
    rx := Memory.ofBytes (body ++ [c.extractLsb' 0 8, c.extractLsb' 8 8])
    rxLen := body.length + 2
    crc := crc16 body
    crcWritten := true
    rets := s.rets ++ [outcome] }

/-- The status an abort leaves: the code a `ProtocolError` carries, else 0 (R18, R170). -/
def statusLeft (e : ErrKind) : BitVec 4 := (carriedCode e).getD 0

/-- What an attempt during an operation is answered (R28, R29, R194). -/
def attemptAnswered : Attempt → OpResult → Prop
  | .readReg _, x => ∃ v, x = .ok v
  | .issue _, x => x = .refused .busy
  | .writeAddr _, x => x = .refused .busy
  | .writeDump _, x => x = .refused .busy

/-- What a refused operation leaves: `RFS` set, the outcome given back, nothing else (00_scope.md R13, R167). -/
def State.refusedWith (reason : RefuseReason) (s : State) : State :=
  { s with rfs := true, rets := s.rets ++ [.refused reason] }

/-- What an exchange that fails leaves (R170). -/
def State.failedWith (e : ErrKind) (s : State) : State :=
  { s with err := errCode e, status := statusLeft e, sess := .closed, rets := s.rets ++ [.err e] }

/-! ### Programs -/

/-- The last outcome given back to the host. -/
def State.lastRet (s : State) : Option OpResult := s.rets.getLast?

/-- The host program that `COLLECT` stands for (R76, R158). -/
def collectProgram : List Instr :=
  [.verify, .init, .readU, .readI, .readCosf, .readFreq, .readAngle, .readP, .readQ, .readEReset, .readEYday,
    .readEToday, .close]

/-- A host program issued one operation after another, stopping at the first that does not end `Ok` (R158). -/
def runProgram : List Instr → State → Option State
  | [], s => some s
  | i :: is, s =>
    match exec i s with
    | .next t =>
      match t.lastRet with
      | some (.ok _) => runProgram is t
      | _ => some t
    | _ => none

/-- `bytes` with bit `k` of byte `i` flipped (R91, S1). -/
def flipBit (bytes : List Byte) (i k : Nat) : List Byte :=
  bytes.set i (bytes.getD i 0 ^^^ (1#8 <<< k))

/-- The read instructions and the measurement each stands for (R76, R142). -/
def readInstrs : List (Instr × Meas) :=
  [(.readU, .u), (.readI, .i), (.readCosf, .cosf), (.readFreq, .freq), (.readAngle, .angle), (.readP, .p), (.readQ, .q),
    (.readEReset, .eReset), (.readEYday, .eYday), (.readEToday, .eToday)]

/-- `READ m` for every `m`, in both spellings (R76). -/
def isRead (i : Instr) (m : Meas) : Prop := (i, m) ∈ readInstrs ∨ i = .read (BitVec.ofNat 8 (measNumber m))

/-- The instructions that build a frame and the payload each puts after the address (R103 to R114). -/
def builderPayload : Instr → Option (List Byte)
  | .buildTest => some [0x00]
  | .buildInit => some ([0x01, Config.accessLevel] ++ (List.finRange 6).map Config.password)
  | .buildClose => some [0x02]
  | .buildRead cmd paramId subIndex => some [cmd, paramId, subIndex]
  | .frameTest => some [0x00]
  | .frameInit => some ([0x01, Config.accessLevel] ++ (List.finRange 6).map Config.password)
  | .frameClose => some [0x02]
  | .frameRead cmd paramId subIndex => some [cmd, paramId, subIndex]
  | .frameReadU => some [0x08, Config.curvalParamId, 0x11]
  | .frameReadI => some [0x08, Config.curvalParamId, 0x21]
  | .frameReadCosf => some [0x08, Config.curvalParamId, 0x30]
  | .frameReadFreq => some [0x08, Config.curvalParamId, 0x40]
  | .frameReadAngle => some [0x08, Config.curvalParamId, 0x51]
  | .frameReadP => some [0x08, Config.curvalParamId, 0x00]
  | .frameReadQ => some [0x08, Config.curvalParamId, 0x08]
  | .frameReadEReset => some [0x05, energyParamId Config.periodReset Config.month, Config.tariff]
  | .frameReadEYday => some [0x05, energyParamId Config.periodYesterday Config.month, Config.tariff]
  | .frameReadEToday => some [0x05, energyParamId Config.periodToday Config.month, Config.tariff]
  | .crc16 _ => none
  | .decode3 _ _ _ _ => none
  | .decode4 _ _ _ _ _ => none
  | .validate _ _ => none
  | .verify => none
  | .init => none
  | .read _ => none
  | .readU => none
  | .readI => none
  | .readCosf => none
  | .readFreq => none
  | .readAngle => none
  | .readP => none
  | .readQ => none
  | .readEReset => none
  | .readEYday => none
  | .readEToday => none
  | .close => none
  | .collect => none
  | .reservedD => none
  | .reservedE => none
  | .reservedF => none
  | .vStatus _ _ _ => none
  | .vTriple _ _ _ => none
  | .vTriple3 _ _ _ _ _ => none
  | .vSumTriple3 _ _ _ _ _ _ => none
  | .vSumQuad3 _ _ _ _ _ _ => none

end Sys2Proof.Machine
end

