-- ==== Sys2Proof/Certificates/Slice0/Obligations.lean ====
section
/-! DEFINITION. The statements for the provers. Each docstring names the rule of spec/ it formalises. -/

open Sys2Proof Sys2Proof.Machine

/-! ### The CRC Engine -/

/-- 40_crc.md R85 to R88: the register starts at 0xFFFF; each byte is XORed into its low byte and eight bit steps follow,
each a right shift by one with an XOR of 0xA001 when bit 0 was set; the register's value is the result. -/
def Obligations.Crc16IsTheModbusAlgorithm : Prop :=
  crc16 [] = 0xFFFF ∧
  ∀ (bytes : List Byte) (b : Byte),
    crc16 (bytes ++ [b]) =
      (fun c : U16 => if c.getLsbD 0 then (c >>> 1) ^^^ 0xA001 else c >>> 1)^[8] (crc16 bytes ^^^ b.setWidth 16)

/-- R84: `CRC16` completes on every byte sequence the host port carries: it returns the checksum, leaves it in `CRC` and
writes nothing else. (That the port carries at least 32 bytes is log 13's reading.) -/
def Obligations.Crc16CompletesWithChecksum : Prop :=
  ∀ (bytes : List Byte) (s : State), s.busy = false → bytes.length ≤ Config.portMax →
    exec (.crc16 bytes) s =
      .next { s with
        crc := crc16 bytes
        crcWritten := true
        rets := s.rets ++ [.ok (.u16 (crc16 bytes))] }

/-- R91 (b): the CRC of a whole frame, its own CRC field included, is 0x0000. -/
def Obligations.FrameResidueIsZero : Prop :=
  ∀ P : List Byte, crc16 (P ++ [(crc16 P).extractLsb' 0 8, (crc16 P).extractLsb' 8 8]) = 0

/-- R91 (a) and (c), S1: a frame with its computed CRC passes the CRC check, and after flipping any single bit of it,
the CRC field's bits among them, it fails. R91 claims the second only "with overwhelming probability" and allows a model to
rely on more where it proves it. -/
def Obligations.SingleBitFlipFailsCrcCheck : Prop :=
  ∀ P : List Byte, crcOk (frameOf P) = true ∧
    ∀ i k : Nat, i < (frameOf P).length → k < 8 → crcOk (flipBit (frameOf P) i k) = false

/-! ### The Value Decoders -/

/-- 41_decoders.md R93: `DECODE3` returns the pair of `b0 * 65536 + b2 * 256 + b1` and the scale, and writes no register. -/
def Obligations.Decode3ReturnsExactPair : Prop :=
  ∀ (b0 b1 b2 : Byte) (scale : Nat) (s : State), s.busy = false →
    (scale ≠ 0 →
      exec (.decode3 b0 b1 b2 scale) s =
        .next { s with rets := s.rets ++ [.ok (.scaled (b0.toNat * 65536 + b2.toNat * 256 + b1.toNat) scale)] }) ∧
    (scale = 0 → exec (.decode3 b0 b1 b2 scale) s = .next (s.refusedWith .scaleZero))

/-- R94: `DECODE4` returns the pair of `b1 * 2^24 + b0 * 65536 + b3 * 256 + b2` and the scale, and writes no register. -/
def Obligations.Decode4ReturnsExactPair : Prop :=
  ∀ (b0 b1 b2 b3 : Byte) (scale : Nat) (s : State), s.busy = false →
    (scale ≠ 0 →
      exec (.decode4 b0 b1 b2 b3 scale) s =
        .next { s with
          rets := s.rets ++
            [.ok (.scaled (b1.toNat * 16777216 + b0.toNat * 65536 + b3.toNat * 256 + b2.toNat) scale)] }) ∧
    (scale = 0 → exec (.decode4 b0 b1 b2 b3 scale) s = .next (s.refusedWith .scaleZero))

/-- R66: all 24 bits of a triple and all 32 of a quad enter the integer: two fields denote the same integer only if they
are the same bytes. -/
def Obligations.DecodersLoseNoBit : Prop :=
  (∀ x y : Triple, tripleRaw x = tripleRaw y → x = y) ∧ (∀ x y : Quad, quadRaw x = quadRaw y → x = y)

/-- R95, R101: the value of a pair is the exact quotient. -/
def Obligations.ScaledValueIsExactQuotient : Prop :=
  ∀ raw scale : Nat, scale ≠ 0 → scaledValue raw scale * scale = raw

/-- R25, R68, R99: the first register and the size of each measurement's group are those of the table; the scale of a
result register is the scale of the measurement whose group it is in: 100 for voltage, frequency and angle, 1000 for the
others; and every register is in the group of one measurement. -/
def Obligations.ResultScalesFollowTheMeasurement : Prop :=
  (measDest .u = 0 ∧ measCount .u = 3) ∧ (measDest .i = 3 ∧ measCount .i = 3) ∧
  (measDest .cosf = 6 ∧ measCount .cosf = 4) ∧ (measDest .freq = 10 ∧ measCount .freq = 1) ∧
  (measDest .angle = 11 ∧ measCount .angle = 3) ∧ (measDest .p = 14 ∧ measCount .p = 4) ∧
  (measDest .q = 18 ∧ measCount .q = 4) ∧ (measDest .eReset = 22 ∧ measCount .eReset = 4) ∧
  (measDest .eYday = 26 ∧ measCount .eYday = 4) ∧ (measDest .eToday = 30 ∧ measCount .eToday = 4) ∧
  ∀ r : Fin 34, ∃ m : Meas, (measDest m ≤ r.val ∧ r.val < measDest m + measCount m) ∧
    resScale r.val = (if m = .u ∨ m = .freq ∨ m = .angle then 100 else 1000) ∧
    (∀ n : Meas, measDest n ≤ r.val ∧ r.val < measDest n + measCount n → n = m)

/-! ### The frame builders -/

/-- 42_frame_build.md R103 to R106: the four builders complete in every session state and whatever was built before: `TX`
holds address, payload and CRC, low byte first; `TXLEN` and `CRC` follow; the frame is returned; nothing else is written. -/
def Obligations.BuildersLeaveTheirFrame : Prop :=
  ∀ s : State, s.busy = false →
    exec .buildTest s = .next (s.builtWith [0x00]) ∧
    exec .buildInit s =
      .next (s.builtWith [0x01, Config.accessLevel, Config.password 0, Config.password 1, Config.password 2,
        Config.password 3, Config.password 4, Config.password 5]) ∧
    exec .buildClose s = .next (s.builtWith [0x02]) ∧
    ∀ cmd paramId subIndex : Byte,
      exec (.buildRead cmd paramId subIndex) s = .next (s.builtWith [cmd, paramId, subIndex])

/-- Log 9's reading of an outgoing frame's word, the model's choice: the word makes the engine build that frame, the generic
one with the three bytes told, the others with the bytes of R103 to R105 and R107 to R114. -/
def Obligations.FrameWordsBuildTheirFrames : Prop :=
  ∀ (i : Instr) (bytes payload : List Byte) (period : Period) (s : State), s.busy = false →
    encode i = .frameOut bytes ∨ encode i = .energyOut period bytes → builderPayload i = some payload →
    exec i s = .next (s.builtWith payload)

/-- R115: `TXLEN` after a build is 4, 11, 4 or 6 according to the builder and nothing else. -/
def Obligations.BuiltFramesHaveFixedLengths : Prop :=
  ∀ s : State, s.busy = false →
    (∃ t, exec .buildTest s = .next t ∧ t.txLen = 4) ∧
    (∃ t, exec .buildInit s = .next t ∧ t.txLen = 11) ∧
    (∃ t, exec .buildClose s = .next t ∧ t.txLen = 4) ∧
    (∀ cmd paramId subIndex : Byte, ∃ t, exec (.buildRead cmd paramId subIndex) s = .next t ∧ t.txLen = 6)

/-- R78, R102: the bytes that an outgoing frame's word leaves in `TX` pass the CRC check and are told apart as that very
frame, whatever `CFG_ADDR` and the open constants are; an energy frame's are read-energy-counters by their bytes alone, and
that row's with the period told. That a frame's word builds the frame is the model's choice (log 9), and so is the form of a transfer (log 2). -/
def Obligations.BuiltFrameDecodesAsItself : Prop :=
  ∀ (i : Instr) (s : State), s.busy = false → i.wellFormed = true →
    (∀ bytes, encode i = .frameOut bytes →
      ∃ t, exec i s = .next t ∧ crcOk t.txBytes = true ∧ decode (.frameOut t.txBytes) = .ok i) ∧
    (∀ period bytes, encode i = .energyOut period bytes →
      ∃ t, exec i s = .next t ∧ crcOk t.txBytes = true ∧ decode (.energyOut period t.txBytes) = .ok i ∧
        ∃ paramId subIndex, decode (.frameOut t.txBytes) = .ok (.frameRead 0x05 paramId subIndex))

/-! ### Validation -/

/-- 43_frame_validate.md R117: `VALIDATE` loads the buffer into `RX`, makes the checks size, CRC, status in this order and
returns the first failure or the response; it writes `RX`, `RXLEN` and, once the size is right, `CRC`, and nothing else:
not `ERR`, `STATUS`, `SESS` or `RES`. The empty buffer is a size failure here. -/
def Obligations.ValidateJudgesByTheRules : Prop :=
  ∀ (v : Variant) (buffer : List Byte) (s : State), s.busy = false → buffer.length ≤ 32 →
    exec (.validate (BitVec.ofNat 8 (variantCode v)) buffer) s =
      .next { s with
        rx := Memory.ofBytes buffer
        rxLen := buffer.length
        crc := if buffer.length = variantSize v then crc16 (buffer.take (buffer.length - 2)) else s.crc
        crcWritten := if buffer.length = variantSize v then true else s.crcWritten
        rets := s.rets ++
          [match replyError v .wrongResultSize buffer with
            | some e => .err e
            | none => .ok (.response (parse v buffer))] }

/-- R120, R121, S5: a status reply's word with its right CRC returns `RspStatus(0)` or `ProtocolError(code)` by the low 4 bits
of the status byte alone; with a wrong CRC it is `WrongCrc` whatever the status byte says (R168). That a reply's word stands for `VALIDATE` of its
bytes is the model's choice (log 10). -/
def Obligations.StatusReplyUsesLowNibbleOnly : Prop :=
  ∀ (addr status : Byte) (c : U16) (s : State), s.busy = false →
    exec (.vStatus addr status c) s =
      .next (s.checkedWith [addr, status] c
        (if crc16 [addr, status] ≠ c then .err .wrongCrc
          else if status.toNat % 16 = 0 then .ok (.response (.status 0))
          else .err (.protocolError (BitVec.ofNat 4 (status.toNat % 16)))))

/-- R122 to R125: the word of a reply of triples or quads with its right CRC returns its fields, in layout order, the sum
first; with a wrong CRC it is `WrongCrc`. (That a reply's word stands for `VALIDATE` of its bytes is log 10's choice.) -/
def Obligations.ReplyWordsReturnTheirFields : Prop :=
  ∀ (addr : Byte) (c : U16) (s : State), s.busy = false →
    let outcome := fun (body : List Byte) (r : Response) =>
      if crc16 body = c then OpResult.ok (.response r) else .err .wrongCrc
    (∀ x : Triple,
      exec (.vTriple addr x c) s =
        .next (s.checkedWith [addr, x.b0, x.b1, x.b2] c (outcome [addr, x.b0, x.b1, x.b2] (.triple x)))) ∧
    (∀ x y z : Triple,
      exec (.vTriple3 addr x y z c) s =
        .next (s.checkedWith (addr :: x.bytes ++ y.bytes ++ z.bytes) c
          (outcome (addr :: x.bytes ++ y.bytes ++ z.bytes) (.triple3 x y z)))) ∧
    (∀ w x y z : Triple,
      exec (.vSumTriple3 addr w x y z c) s =
        .next (s.checkedWith (addr :: w.bytes ++ x.bytes ++ y.bytes ++ z.bytes) c
          (outcome (addr :: w.bytes ++ x.bytes ++ y.bytes ++ z.bytes) (.sumTriple3 w x y z)))) ∧
    (∀ w x y z : Quad,
      exec (.vSumQuad3 addr w x y z c) s =
        .next (s.checkedWith (addr :: w.bytes ++ x.bytes ++ y.bytes ++ z.bytes) c
          (outcome (addr :: w.bytes ++ x.bytes ++ y.bytes ++ z.bytes) (.sumQuad3 w x y z))))

/-- R127, R47: the reply's address byte is compared with nothing. A `VERIFY` comes to the same outcome and the same flags
whatever `CFG_ADDR` is, the reply being the same. -/
def Obligations.ReplyAddressIsNotCompared : Prop :=
  ∀ (s : State) (a : Byte), s.busy = false →
    ∃ t t', exec .verify s = .next t ∧ exec .verify { s with cfgAddr := a } = .next t' ∧
      t.lastRet = t'.lastRet ∧ t.err = t'.err ∧ t.status = t'.status ∧ t.sess = t'.sess

/-! ### The Transport Session -/

/-- 44_transport.md R132: `VERIFY` sends TestChannel and waits `T_CH`; it is admitted in every session state. A reply that
passes ends it `Ok` in `ChannelVerified`; no reply is `ChannelTimeout`; any other failure is its kind; a failure aborts. -/
def Obligations.VerifyCompletes : Prop :=
  ∀ s : State, s.busy = false →
    (replyError .status .channelTimeout s.chanReply = none →
      exec .verify s =
        .next { s.exchanged [0x00] .status .ch with sess := .channelVerified, rets := s.rets ++ [.ok .done] }) ∧
    (∀ e, replyError .status .channelTimeout s.chanReply = some e →
      exec .verify s = .next ((s.exchanged [0x00] .status .ch).failedWith e))

/-- R133: `INIT` in `ChannelVerified` sends Initialize with the fixed access level and password; a reply that passes ends it
`Ok` in `Initialized`; any failure, silence being `MidSessionTimeout`, aborts. Elsewhere it is refused. -/
def Obligations.InitCompletes : Prop :=
  ∀ s : State, s.busy = false →
    (s.sess = .channelVerified → replyError .status .midSessionTimeout s.chanReply = none →
      exec .init s =
        .next { s.exchanged ([0x01, Config.accessLevel] ++ (List.finRange 6).map Config.password) .status .reply with
          sess := .initialized, rets := s.rets ++ [.ok .done] }) ∧
    (s.sess = .channelVerified → ∀ e, replyError .status .midSessionTimeout s.chanReply = some e →
      exec .init s =
        .next ((s.exchanged ([0x01, Config.accessLevel] ++ (List.finRange 6).map Config.password) .status
          .reply).failedWith e)) ∧
    (s.sess ≠ .channelVerified → exec .init s = .next (s.refusedWith .badSequence))

/-- R134, R142: `READ m`, in either spelling, in `Initialized` or `Reading` sends the frame of row `m` and, on a reply that
passes, ends `Ok` in `Reading` with its group of `RES` holding the decoded fields and every other register of `RES` as it
was. -/
def Obligations.ReadDeliversItsGroup : Prop :=
  ∀ (i : Instr) (m : Meas) (s : State), isRead i m → s.busy = false →
    s.sess = .initialized ∨ s.sess = .reading →
    replyError (measVariant m) .midSessionTimeout s.chanReply = none →
    ∃ t, exec i s = .next t ∧
      t = { s.exchanged (measPayload m) (measVariant m) .reply with
        sess := .reading, res := t.res, rets := s.rets ++ [.ok .done] } ∧
      ∀ r : Fin 34,
        (measDest m ≤ r.val ∧ r.val < measDest m + measCount m →
          t.res[r].toNat = fieldRaw m s.chanReply (r.val - measDest m)) ∧
        (¬(measDest m ≤ r.val ∧ r.val < measDest m + measCount m) → t.res[r] = s.res[r])

/-- R128, R134: a `READ` whose reply fails aborts and writes nothing of `RES`; outside `Initialized` and `Reading` it is
refused. -/
def Obligations.FailedReadWritesNoResult : Prop :=
  ∀ (i : Instr) (m : Meas) (s : State), isRead i m → s.busy = false →
    (s.sess = .initialized ∨ s.sess = .reading →
      ∀ e, replyError (measVariant m) .midSessionTimeout s.chanReply = some e →
        exec i s = .next ((s.exchanged (measPayload m) (measVariant m) .reply).failedWith e)) ∧
    (¬(s.sess = .initialized ∨ s.sess = .reading) → exec i s = .next (s.refusedWith .badSequence))

/-- R135: `CLOSE` sends Close from every session state and leaves `SESS` = `Closed` whatever the reply; a failure is
reported. -/
def Obligations.CloseCompletes : Prop :=
  ∀ s : State, s.busy = false →
    (replyError .status .midSessionTimeout s.chanReply = none →
      exec .close s =
        .next { s.exchanged [0x02] .status .reply with sess := .closed, rets := s.rets ++ [.ok .done] }) ∧
    (∀ e, replyError .status .midSessionTimeout s.chanReply = some e →
      exec .close s = .next ((s.exchanged [0x02] .status .reply).failedWith e))

/-- R131, the whole table, and over every instruction: an instruction that is no transport operation and not `COLLECT` leaves
`SESS` alone, and so does whatever is refused; an error closes the session; `VERIFY` ends `Ok` in `ChannelVerified`, `INIT` from
there in `Initialized`, `READ` from `Initialized` or `Reading` in `Reading`, `CLOSE` in `Closed`, and `COLLECT`, whose last
transport operation closed or failed, in `Closed`. -/
def Obligations.SessionMovesOnlyByTheTable : Prop :=
  ∀ (i : Instr) (s t : State), s.busy = false → exec i s = .next t →
    (¬(i = .verify ∨ i = .init ∨ (∃ m, isRead i m) ∨ i = .close ∨ i = .collect) → t.sess = s.sess) ∧
    (∀ r, t.lastRet = some (.refused r) → t.sess = s.sess) ∧
    (i = .verify ∨ i = .init ∨ (∃ m, isRead i m) ∨ i = .close ∨ i = .collect →
      ∀ e, t.lastRet = some (.err e) → t.sess = .closed) ∧
    (∀ x, t.lastRet = some (.ok x) →
      (i = .verify → t.sess = .channelVerified) ∧
      (i = .init → s.sess = .channelVerified ∧ t.sess = .initialized) ∧
      ((∃ m, isRead i m) → (s.sess = .initialized ∨ s.sess = .reading) ∧ t.sess = .reading) ∧
      (i = .close → t.sess = .closed) ∧
      (i = .collect → t.sess = .closed))

/-- R140: `VERIFY` and `CLOSE` behave as a fresh session test from any two states and histories: with the same `CFG_ADDR` and
the same reply they send the same frame and leave the same outcome, flags, session state, buffers and CRC. -/
def Obligations.VerifyAndCloseAreIdempotent : Prop :=
  ∀ (i : Instr) (s s' : State), i = .verify ∨ i = .close → s.busy = false → s'.busy = false →
    s.cfgAddr = s'.cfgAddr → s.chanReply = s'.chanReply →
    ∃ t t', exec i s = .next t ∧ exec i s' = .next t' ∧ t.lastRet = t'.lastRet ∧ t.err = t'.err ∧
      t.status = t'.status ∧ t.sess = t'.sess ∧ t.crc = t'.crc ∧ t.tx = t'.tx ∧ t.txLen = t'.txLen ∧ t.rx = t'.rx ∧
      t.rxLen = t'.rxLen ∧ t.chanLog.drop s.chanLog.length = t'.chanLog.drop s'.chanLog.length

/-- R196: echo. `VERIFY` takes an echo of its own frame for a status reply of code 0 and `READ 4` takes its own for a
frequency; `CLOSE` reads its echo as `ProtocolError(2)`; an echo fails the size check in `INIT` and in every other `READ`. -/
def Obligations.EchoIsNotDetected : Prop :=
  ∀ s : State, s.busy = false →
    (s.chanReply = frameOf [s.cfgAddr, 0x00] → ∃ t, exec .verify s = .next t ∧ t.lastRet = some (.ok .done)) ∧
    (s.chanReply = frameOf [s.cfgAddr, 0x02] →
      ∃ t, exec .close s = .next t ∧ t.lastRet = some (.err (.protocolError 2))) ∧
    (s.sess = .channelVerified → s.chanReply = frameOf (s.cfgAddr :: initPayload) →
      ∃ t, exec .init s = .next t ∧ t.lastRet = some (.err .wrongResultSize)) ∧
    (∀ i m, isRead i m → s.sess = .initialized ∨ s.sess = .reading →
      s.chanReply = frameOf (s.cfgAddr :: measPayload m) →
      ∃ t, exec i s = .next t ∧
        t.lastRet = some (if m = .freq then .ok .done else .err .wrongResultSize))

/-! ### Errors and refusals -/

/-- 60_exceptions.md R170, with the codes of R18: when an instruction that uses the channel returns an error, `ERR` holds the
error's code, `STATUS` the code it carries (0 if it carries none), `SESS` is `Closed` and `PHASE` is `Idle`. -/
def Obligations.ErrorsAbortTheSession : Prop :=
  ∀ (i : Instr) (s t : State) (e : ErrKind), s.busy = false →
    i = .verify ∨ i = .init ∨ (∃ m, isRead i m) ∨ i = .close ∨ i = .collect →
    exec i s = .next t → t.lastRet = some (.err e) →
    t.err = (match e with
      | .wrongResultSize => 1
      | .wrongCrc => 2
      | .protocolError _ => 3
      | .channelTimeout => 4
      | .midSessionTimeout => 5) ∧
    t.status = (match e with
      | .protocolError code => code
      | .wrongResultSize => 0
      | .wrongCrc => 0
      | .channelTimeout => 0
      | .midSessionTimeout => 0) ∧
    t.sess = .closed ∧ t.phase = .idle

/-- R145: after a transport operation `ERR` tells that operation's outcome alone: `Ok` leaves `ERR` and `STATUS` 0 whatever they
were, an error leaves its code; a refused one leaves both as they were. -/
def Obligations.ErrorFlagsArePerOperation : Prop :=
  ∀ (i : Instr) (s t : State), s.busy = false →
    i = .verify ∨ i = .init ∨ (∃ m, isRead i m) ∨ i = .close →
    exec i s = .next t →
    (∀ x, t.lastRet = some (.ok x) → t.err = 0 ∧ t.status = 0) ∧
    (∀ e, t.lastRet = some (.err e) → t.err = errCode e ∧ t.status = (carriedCode e).getD 0) ∧
    (∀ r, t.lastRet = some (.refused r) → t.err = s.err ∧ t.status = s.status)

/-- R167, R13: whatever is refused writes `RFS` and nothing else. -/
def Obligations.RefusalWritesOnlyRfs : Prop :=
  ∀ (i : Instr) (s t : State) (r : RefuseReason), exec i s = .next t → t.lastRet = some (.refused r) →
    t = s.refusedWith r

/-- R72: the reserved codes are `Refused(ReservedOp)`; a variant code above 4, a selector outside 1 to 10, and a byte sequence
longer than the port are `Refused(BadOperand)`; a scale of 0 is `Refused(ScaleZero)`. That the port's limit for `VALIDATE` is
the `RX_MAX` of R117 is the model's reading (log 26), and how long the port is otherwise stays open (log 13). -/
def Obligations.ReservedAndBadOperandsAreRefused : Prop :=
  ∀ s : State, s.busy = false →
    (∀ i, i = .reservedD ∨ i = .reservedE ∨ i = .reservedF → exec i s = .next (s.refusedWith .reservedOp)) ∧
    (∀ (v : Byte) (buffer : List Byte), 4 < v.toNat ∨ 32 < buffer.length →
      exec (.validate v buffer) s = .next (s.refusedWith .badOperand)) ∧
    (∀ m : Byte, m.toNat = 0 ∨ 10 < m.toNat → exec (.read m) s = .next (s.refusedWith .badOperand)) ∧
    (∀ bytes : List Byte, Config.portMax < bytes.length →
      exec (.crc16 bytes) s = .next (s.refusedWith .badOperand)) ∧
    (∀ b0 b1 b2 b3 : Byte, exec (.decode3 b0 b1 b2 0) s = .next (s.refusedWith .scaleZero) ∧
      exec (.decode4 b0 b1 b2 b3 0) s = .next (s.refusedWith .scaleZero))

/-- 10_state.md R28, R138: while `BUSY` = 1 every operation is `Refused(Busy)` and does nothing else. That `Busy` is the reason for
a reserved or out-of-domain operation too is the model's reading (log 24); in the model `BUSY` = 1 stands only inside an
operation, where the host's attempts meet it (log 4, `AttemptsDoNotDisturbAnOperation`). -/
def Obligations.BusyRefusesEveryOperation : Prop :=
  ∀ (i : Instr) (s : State), s.busy = true → exec i s = .next (s.refusedWith .busy)

/-- R19: `RFS` is sticky: once set it stays set over every step, unless the host's action is a reset. -/
def Obligations.RfsIsStickyUntilReset : Prop :=
  ∀ s t : State, s.rfs = true → step s = .next t →
    t.rfs = true ∨ (∃ rest, s.port = .reset :: rest) ∨
      ∃ w as whole part rest, s.port = .issueThenReset w as whole part :: rest

/-- R18, R21, R22, R25: the frame of every instruction. `CFG_ADDR`, `CFG_DUMP` and the host's coming actions are never
written; `STEP` only by `COLLECT`; `RES` only by `READ` and `COLLECT`; `ERR`, `STATUS`, `SESS`, `PHASE`, the channel and the
trace port are touched only by the operations that use the channel; `TX` and `TXLEN` only by those and the builders;
`RX` and `RXLEN` only by those, `VALIDATE` and the reply words. That an outgoing frame's word touches no channel and a reply's
word leaves `ERR`, `STATUS`, `SESS` and `RES` alone is the model's choice (log 9, log 10). -/
def Obligations.InstructionsTouchOnlyTheirRegisters : Prop :=
  ∀ (i : Instr) (s t : State), exec i s = .next t →
    (t.cfgAddr = s.cfgAddr ∧ t.cfgDump = s.cfgDump ∧ t.port = s.port ∧ t.busy = s.busy ∧ t.freeReads = s.freeReads ∧
      t.hostFaults = s.hostFaults) ∧
    (i ≠ .collect → t.step = s.step) ∧
    (i ≠ .collect → (¬∃ m, isRead i m) → t.res = s.res) ∧
    (¬(i = .verify ∨ i = .init ∨ (∃ m, i = .read m) ∨ (∃ m, isRead i m) ∨ i = .close ∨ i = .collect) →
      (t.err = s.err ∧ t.status = s.status ∧ t.sess = s.sess ∧ t.phase = s.phase ∧ t.chanLog = s.chanLog ∧
        t.chanIn = s.chanIn ∧ t.reads = s.reads ∧ t.trace = s.trace) ∧
      (builderPayload i = none → (∀ a, t.tx.read a = s.tx.read a) ∧ t.txLen = s.txLen) ∧
      ((∀ v buffer, i ≠ .validate v buffer) → (∀ v bytes, encode i ≠ .frameIn v bytes) →
        (∀ a, t.rx.read a = s.rx.read a) ∧ t.rxLen = s.rxLen))

/-! ### The Reading Orchestrator -/

/-- 45_orchestrator.md R158: `COLLECT` behaves as the host program `VERIFY; INIT; READ 1; ...; READ 10; CLOSE` that stops at
the first operation that does not end `Ok`, run from zeroed results: every register but `STEP` ends the same, and the outcome
is the program's last, with `Ok` made `Ok(Complete)` and `ChannelTimeout` made `Ok(AllZero)`. -/
def Obligations.CollectEqualsHostProgram : Prop :=
  ∀ s : State, s.busy = false →
    ∃ t u, exec .collect s = .next t ∧
      runProgram collectProgram { s with res := Vector.replicate 34 0 } = some u ∧
      u.step = s.step ∧ { t with step := u.step, rets := u.rets } = u ∧
      t.lastRet =
        match u.lastRet with
        | some (.ok _) => some (.ok .complete)
        | some (.err .channelTimeout) => some (.ok .allZero)
        | other => other

/-- R150: no reply to the first frame of `COLLECT`: exactly that frame is written and one read made, every result is 0,
`SESS` = `Closed`, `ERR` = 4, `STEP` = 14, and the return is `Ok(AllZero)`; nothing but that silence is treated so. -/
def Obligations.CollectDegradedReturn : Prop :=
  ∀ s : State, s.busy = false →
    ∃ t, exec .collect s = .next t ∧
      (s.chanReply = [] →
        t.chanLog = s.chanLog ++ [.write (frameOf [s.cfgAddr, 0x00]), .settle, .read .ch []] ∧
        t.res = Vector.replicate 34 0 ∧ t.sess = .closed ∧ t.err = 4 ∧ t.step = 14 ∧
        t.rets = s.rets ++ [.ok .allZero]) ∧
      (s.chanReply ≠ [] → t.lastRet ≠ some (.ok .allZero))

/-- R148, R157: the frames `COLLECT` writes are the first `n` of the thirteen, in order, `n` from 1 to 13, one read to each
write, the settle delay between. -/
def Obligations.CollectSendsAPrefixOfTheSequence : Prop :=
  ∀ s : State, s.busy = false →
    ∃ t n, exec .collect s = .next t ∧ 1 ≤ n ∧ n ≤ 13 ∧
      (∃ log, t.chanLog = s.chanLog ++ log ∧ halfDuplex log ∧
        framesWritten log = (sessionFrames s.cfgAddr).take n) ∧
      t.reads = s.reads + n

/-- R147, R155: when the channel's thirteen answers all pass their checks `COLLECT` completes: all thirteen frames are written,
`RES` holds the fields of the ten readings, `ERR` = 0, `STATUS` = 0, `SESS` = `Closed`, `STEP` = 14, `Ok(Complete)`. -/
def Obligations.CollectCompletesWithAllReadings : Prop :=
  ∀ (s : State) (a b c : List Byte) (reading : Meas → List Byte) (rest : List (List Byte)), s.busy = false →
    s.chanIn = a :: b :: (allMeas.map reading ++ c :: rest) →
    replyError .status .channelTimeout a = none → replyError .status .midSessionTimeout b = none →
    (∀ m, replyError (measVariant m) .midSessionTimeout (reading m) = none) →
    replyError .status .midSessionTimeout c = none →
    ∃ t, exec .collect s = .next t ∧ t.rets = s.rets ++ [.ok .complete] ∧ t.err = 0 ∧ t.status = 0 ∧
      t.sess = .closed ∧ t.step = 14 ∧ t.chanIn = rest ∧
      (∃ log, t.chanLog = s.chanLog ++ log ∧ framesWritten log = sessionFrames s.cfgAddr) ∧
      ∀ (m : Meas) (r : Fin 34), measDest m ≤ r.val → r.val < measDest m + measCount m →
        t.res[r].toNat = fieldRaw m (reading m) (r.val - measDest m)

/-- R153, R156: when `COLLECT` returns an error, `STEP` is the failing step (1 to 13), as many exchanges were made,
and the group of the failing read and every later group are 0. -/
def Obligations.CollectFailureLeavesLaterGroupsZero : Prop :=
  ∀ s : State, s.busy = false →
    ∃ t, exec .collect s = .next t ∧
      ∀ e, t.lastRet = some (.err e) →
        1 ≤ t.step.toNat ∧ t.step.toNat ≤ 13 ∧ t.reads = s.reads + t.step.toNat ∧
        t.err = errCode e ∧ t.status = (carriedCode e).getD 0 ∧ t.sess = .closed ∧
        ∀ (m : Meas) (r : Fin 34), measDest m ≤ r.val → r.val < measDest m + measCount m →
          t.step.toNat ≤ 2 + measNumber m → t.res[r] = 0

/-- R160: what `COLLECT` returns: `Ok(Complete)`, `Ok(AllZero)`, an error other than `ChannelTimeout`, or, if another
operation runs, `Refused(Busy)`. -/
def Obligations.CollectOutcomes : Prop :=
  ∀ s : State, ∃ t, exec .collect s = .next t ∧
    (s.busy = true → t.lastRet = some (.refused .busy)) ∧
    (s.busy = false → t.lastRet = some (.ok .complete) ∨ t.lastRet = some (.ok .allZero) ∨
      ∃ e, e ≠ .channelTimeout ∧ t.lastRet = some (.err e))

/-! ### The host port -/

/-- 70_reset_and_hazards.md R194: `CFG_ADDR` and `CFG_DUMP` are written only while `BUSY` = 0; otherwise the write is
`Refused(Busy)`, sets `RFS` and leaves the register unchanged. -/
def Obligations.ConfigurationWritesOnlyWhenIdle : Prop :=
  ∀ (s : State) (rest : List HostEvent) (v : Byte) (b : Bool),
    (s.port = .writeAddr v :: rest → s.busy = false →
      ∃ t, step s = .next t ∧ t = { s with cfgAddr := v, port := rest, rets := t.rets }) ∧
    (s.port = .writeDump b :: rest → s.busy = false →
      ∃ t, step s = .next t ∧ t = { s with cfgDump := b, port := rest, rets := t.rets }) ∧
    (s.port = .writeAddr v :: rest ∨ s.port = .writeDump b :: rest → s.busy = true →
      ∃ t, step s = .next t ∧ t = { s with rfs := true, port := rest, rets := t.rets } ∧
        t.lastRet = some (.refused .busy))

/-- 10_state.md R33 (with log 6's mark of an unwritten `CRC`, and log 7's record of such reads): a host read of `CRC` before its
first write, of `TX` at or above `TXLEN` or of `RX` at or above `RXLEN` returns some value, is recorded as a fault of the host
program and changes nothing else; and no other step records one. -/
def Obligations.FaultsAreReadsOfUnspecifiedBytes : Prop :=
  ∀ s : State, s.Inv →
    let unspecified := fun r : HostReg =>
      (r = .crc ∧ s.crcWritten = false) ∨ (∃ i, r = .tx i ∧ s.txLen ≤ i.val) ∨ ∃ i, r = .rx i ∧ s.rxLen ≤ i.val
    (∀ r rest, s.port = .readReg r :: rest → unspecified r →
      ∃ t x, step s = .next t ∧
        t = { s with
          port := rest, freeReads := t.freeReads, rets := s.rets ++ [.ok x], hostFaults := s.hostFaults ++ [r] }) ∧
    (∀ t, step s = .next t → t.hostFaults ≠ s.hostFaults → ∃ r rest, s.port = .readReg r :: rest ∧ unspecified r)

/-- R29, R45: with `BUSY` = 0 a host read of a register that has a value returns it and changes nothing else: every
register of R14. (`SESS` is given as its code of R20, 0 to 3; `PHASE`, which has none, by name: log 22.) -/
def Obligations.HostReadsReturnTheRegister : Prop :=
  ∀ (s : State) (rest : List HostEvent) (r : HostReg) (x : OpValue), s.busy = false → s.port = .readReg r :: rest →
    (r = .crc ∧ s.crcWritten = true ∧ x = .word (s.crc.setWidth 32)) ∨
    (∃ i b, r = .tx i ∧ i.val < s.txLen ∧ s.tx.read i.val = some b ∧ x = .word (b.setWidth 32)) ∨
    (r = .txLen ∧ x = .word (BitVec.ofNat 32 s.txLen)) ∨
    (∃ i b, r = .rx i ∧ i.val < s.rxLen ∧ s.rx.read i.val = some b ∧ x = .word (b.setWidth 32)) ∨
    (r = .rxLen ∧ x = .word (BitVec.ofNat 32 s.rxLen)) ∨
    (r = .err ∧ x = .word (s.err.setWidth 32)) ∨
    (r = .status ∧ x = .word (s.status.setWidth 32)) ∨
    (r = .rfs ∧ x = .word (if s.rfs then 1 else 0)) ∨
    (r = .sess ∧ x = .word (match s.sess with
      | .closed => 0
      | .channelVerified => 1
      | .initialized => 2
      | .reading => 3)) ∨
    (r = .step ∧ x = .word (s.step.setWidth 32)) ∨
    (r = .cfgAddr ∧ x = .word (s.cfgAddr.setWidth 32)) ∨
    (r = .cfgDump ∧ x = .word (if s.cfgDump then 1 else 0)) ∨
    (∃ i : Fin 34, r = .res i ∧ x = .word s.res[i]) ∨
    (r = .busy ∧ x = .word 0) ∨
    (r = .phase ∧ x = .phaseIs s.phase) →
    step s = .next { s with port := rest, rets := s.rets ++ [.ok x] }

/-- R29, R45: with `BUSY` = 1 a host read of any register completes without a fault and changes nothing but the outcomes given
back and the model's count of free values; `BUSY` itself reads 1. Which registers return a free value is log 8's reading, and
that `PHASE` returns a phase's name log 22's, of which this says nothing. -/
def Obligations.HostReadsWhileBusyChangeNothing : Prop :=
  ∀ (s : State) (rest : List HostEvent) (r : HostReg), s.busy = true → s.port = .readReg r :: rest →
    ∃ t x, step s = .next t ∧ t = { s with port := rest, freeReads := t.freeReads, rets := s.rets ++ [.ok x] } ∧
      (r = .busy → x = .word 1)

/-- R32, R186: what reset leaves, from any state, `BUSY` = 1 included. -/
def Obligations.ResetLeavesTheResetValues : Prop :=
  ∀ (s : State) (rest : List HostEvent), s.port = .reset :: rest →
    ∃ t, step s = .next t ∧ t.sess = .closed ∧ t.step = 0 ∧ t.err = 0 ∧ t.status = 0 ∧ t.rfs = false ∧
      t.busy = false ∧ t.phase = .idle ∧ t.cfgAddr = 0x00 ∧ t.cfgDump = false ∧ t.res = Vector.replicate 34 0 ∧
      t.txLen = 0 ∧ t.rxLen = 0

/-- R185: reset in the middle of an operation, whatever the host has attempted before it: the registers take their reset
values, and the bytes that got onto the channel are a prefix of those the operation would have written. That the abandoned
operation gives no outcome back and where inside the operation the reset can come are log 18's choices, that the records outlive
reset is log 17's, that the attempts are served first log 4's. -/
def Obligations.ResetAbandonsAnOperation : Prop :=
  ∀ (s : State) (w : PortWord) (i : Instr) (as : List Attempt) (whole part : Nat) (rest : List HostEvent),
    s.port = .issueThenReset w as whole part :: rest → decode w = .ok i →
    ∃ t done kept log, exec i { s with port := rest } = .next done ∧ step s = .next t ∧
      t = { State.reset with
        port := rest, chanIn := t.chanIn, reads := t.reads, freeReads := t.freeReads, chanLog := t.chanLog,
        trace := t.trace, rets := ({ s with port := rest }.attempts as).rets, hostFaults := s.hostFaults } ∧
      t.chanLog = s.chanLog ++ kept ++ [.reset] ∧ done.chanLog = s.chanLog ++ log ∧
      (framesWritten kept).flatten <+: (framesWritten log).flatten

/-- R28, R191, R194: what the host attempts while an operation runs: an operation or a configuration write is `Refused(Busy)`
with `RFS` set, a read returns some value, and the operation is not disturbed: it comes to the same outcome, given back last,
and to the same state but for `RFS`. An operation attempted is refused as `exec` itself refuses it at `BUSY` = 1. That the
attempts are served before the operation's own work is the model's choice (log 4). -/
def Obligations.AttemptsDoNotDisturbAnOperation : Prop :=
  ∀ (i : Instr) (s : State) (as : List Attempt), s.busy = false →
    ∃ t t₀, exec i (s.attempts as) = .next t ∧ exec i s = .next t₀ ∧
      { t with rfs := t₀.rfs, rets := t₀.rets, freeReads := t₀.freeReads } = t₀ ∧
      (∃ own answers, t₀.rets = s.rets ++ [own] ∧ t.rets = s.rets ++ answers ++ [own] ∧
        List.Forall₂ attemptAnswered as answers) ∧
      ((∃ a ∈ as, ∀ r, a ≠ .readReg r) → t.rfs = true) ∧
      ∀ w j, decode w = .ok j → exec j (s.setBusy true) = .next ((s.setBusy true).attempt (.issue w))

/-- R146, R182: with `CFG_DUMP` = 1 the trace port is given every frame written and every byte sequence read, in order and the
empty one too, and nothing else; with `CFG_DUMP` = 0 nothing. (The port is given byte sequences, before `DUMP_FORMAT`:
log 16.) -/
def Obligations.FrameDumpShowsEveryTransfer : Prop :=
  ∀ (i : Instr) (s t : State), exec i s = .next t →
    ∃ log, t.chanLog = s.chanLog ++ log ∧
      t.trace = s.trace ++
        if s.cfgDump then
          log.filterMap fun e =>
            match e with
            | .write bytes => some bytes
            | .read _ bytes => some bytes
            | .settle => none
            | .reset => none
        else []

/-- R23, R146: `CFG_DUMP` has no effect on any other register or on any outcome: with it set or clear an instruction comes to
the same state but for what the trace port was given. -/
def Obligations.FrameDumpIsASideChannel : Prop :=
  ∀ (i : Instr) (s : State) (b : Bool),
    ∃ t t', exec i s = .next t ∧ exec i { s with cfgDump := b } = .next t' ∧
      { t' with cfgDump := t.cfgDump, trace := t.trace } = t

/-! ### The whole machine -/

/-- R70, R52: whatever instruction runs, from whatever state, the frames it writes are among the thirteen of the session,
with `CFG_ADDR` as the address: a frame that `BUILD_READ` built is never sent. -/
def Obligations.OnlySessionFramesAreSent : Prop :=
  ∀ (i : Instr) (s t : State), exec i s = .next t →
    ∃ log, t.chanLog = s.chanLog ++ log ∧ ∀ frame ∈ framesWritten log, frame ∈ sessionFrames s.cfgAddr

/-- R14, R89: no hidden accumulating state. What an instruction returns, what it puts on the channel and where it leaves the
session depend on `CFG_ADDR`, `SESS`, `BUSY` and the channel's answers alone: not on `CRC`, the buffers, the flags, `STEP`, `RES`
or anything that went before. -/
def Obligations.NoHiddenAccumulatingState : Prop :=
  ∀ (i : Instr) (s s' : State), s.busy = s'.busy → s.cfgAddr = s'.cfgAddr → s.sess = s'.sess →
    s.chanIn = s'.chanIn → s.reads = s'.reads →
    ∃ t t' log, exec i s = .next t ∧ exec i s' = .next t' ∧ t.lastRet = t'.lastRet ∧ t.sess = t'.sess ∧
      t.chanLog = s.chanLog ++ log ∧ t'.chanLog = s'.chanLog ++ log

/-- The host's next action being an operation, a step is that operation's meaning at the state without the action, what the
host attempts meanwhile being served first; with nothing attempted it is the meaning itself (log 1, log 4). -/
def Obligations.StepRunsTheDecodedInstruction : Prop :=
  ∀ (s : State) (w : PortWord) (i : Instr) (rest : List HostEvent), decode w = .ok i →
    (∀ as, s.port = .issue w as :: rest → step s = exec i ({ s with port := rest }.attempts as)) ∧
    (s.port = .issue w [] :: rest → step s = exec i { s with port := rest })

/-- The invariant holds at reset. -/
def Obligations.ResetSatisfiesInvariant : Prop := State.reset.Inv

/-- The invariant of `State.Inv` (R16, R17, R18, R21, R25, R27, R28, R49, R131) is kept by every step. -/
def Obligations.EveryStepKeepsInvariant : Prop :=
  ∀ s t : State, s.Inv → step s = .next t → t.Inv

/-- Decode and encode agree: for every well-formed instruction, with every operand at every value, decoding its words gives
it back. -/
def Obligations.DecodeOfEncodeIsIdentity : Prop :=
  ∀ i : Instr, i.wellFormed = true → decode (encode i) = .ok i

/-- 30_encoding.md R57, R59, R62: words written out from the tables decode to the instructions they stand for (the form of a
transfer is log 2's, and which instruction an ambiguous table word stands for log 11's). -/
def Obligations.TableWordsDecode : Prop :=
  decodeTableWord 8 0x0 = some (.crc16 []) ∧
  decodeTableWord 8 0x7 = some (.validate 0 []) ∧
  decodeTableWord 8 0xC = some .collect ∧
  decodeTableWord 8 0xA3 = some .readCosf ∧
  decodeTableWord 8 0xE = some .reservedE ∧
  decodeTableWord 32 0x00020000 = some .frameClose ∧
  decodeTableWord 48 0x000800510000 = some .frameReadAngle ∧
  decode (.frameIn .triple [0x00, 0x00, 0x88, 0x13, 0x27, 0xE9]) = .ok (.vTriple 0x00 ⟨0x00, 0x88, 0x13⟩ 0xE927)
end

