-- ==== Sys2Proof/Laws/State.lean ====
section
/-! SUPPORT. One lemma for each field of State under each update, so that no proof unfolds a record update. -/

namespace Sys2Proof.Machine

@[simp] theorem State.clearErr_crc (s : State) : (s.clearErr).crc = s.crc := rfl
@[simp] theorem State.clearErr_crcWritten (s : State) : (s.clearErr).crcWritten = s.crcWritten := rfl
@[simp] theorem State.clearErr_tx (s : State) : (s.clearErr).tx = s.tx := rfl
@[simp] theorem State.clearErr_txLen (s : State) : (s.clearErr).txLen = s.txLen := rfl
@[simp] theorem State.clearErr_rx (s : State) : (s.clearErr).rx = s.rx := rfl
@[simp] theorem State.clearErr_rxLen (s : State) : (s.clearErr).rxLen = s.rxLen := rfl
@[simp] theorem State.clearErr_err (s : State) : (s.clearErr).err = 0 := rfl
@[simp] theorem State.clearErr_status (s : State) : (s.clearErr).status = 0 := rfl
@[simp] theorem State.clearErr_rfs (s : State) : (s.clearErr).rfs = s.rfs := rfl
@[simp] theorem State.clearErr_sess (s : State) : (s.clearErr).sess = s.sess := rfl
@[simp] theorem State.clearErr_step (s : State) : (s.clearErr).step = s.step := rfl
@[simp] theorem State.clearErr_cfgAddr (s : State) : (s.clearErr).cfgAddr = s.cfgAddr := rfl
@[simp] theorem State.clearErr_cfgDump (s : State) : (s.clearErr).cfgDump = s.cfgDump := rfl
@[simp] theorem State.clearErr_res (s : State) : (s.clearErr).res = s.res := rfl
@[simp] theorem State.clearErr_busy (s : State) : (s.clearErr).busy = s.busy := rfl
@[simp] theorem State.clearErr_phase (s : State) : (s.clearErr).phase = s.phase := rfl
@[simp] theorem State.clearErr_port (s : State) : (s.clearErr).port = s.port := rfl
@[simp] theorem State.clearErr_chanIn (s : State) : (s.clearErr).chanIn = s.chanIn := rfl
@[simp] theorem State.clearErr_reads (s : State) : (s.clearErr).reads = s.reads := rfl
@[simp] theorem State.clearErr_freeReads (s : State) : (s.clearErr).freeReads = s.freeReads := rfl
@[simp] theorem State.clearErr_chanLog (s : State) : (s.clearErr).chanLog = s.chanLog := rfl
@[simp] theorem State.clearErr_trace (s : State) : (s.clearErr).trace = s.trace := rfl
@[simp] theorem State.clearErr_rets (s : State) : (s.clearErr).rets = s.rets := rfl
@[simp] theorem State.clearErr_hostFaults (s : State) : (s.clearErr).hostFaults = s.hostFaults := rfl

@[simp] theorem State.latchErr_crc (e : ErrKind) (s : State) : (s.latchErr e).crc = s.crc := rfl
@[simp] theorem State.latchErr_crcWritten (e : ErrKind) (s : State) : (s.latchErr e).crcWritten = s.crcWritten := rfl
@[simp] theorem State.latchErr_tx (e : ErrKind) (s : State) : (s.latchErr e).tx = s.tx := rfl
@[simp] theorem State.latchErr_txLen (e : ErrKind) (s : State) : (s.latchErr e).txLen = s.txLen := rfl
@[simp] theorem State.latchErr_rx (e : ErrKind) (s : State) : (s.latchErr e).rx = s.rx := rfl
@[simp] theorem State.latchErr_rxLen (e : ErrKind) (s : State) : (s.latchErr e).rxLen = s.rxLen := rfl
@[simp] theorem State.latchErr_err (e : ErrKind) (s : State) : (s.latchErr e).err = errCode e := rfl
@[simp] theorem State.latchErr_status (e : ErrKind) (s : State) : (s.latchErr e).status = s.status := rfl
@[simp] theorem State.latchErr_rfs (e : ErrKind) (s : State) : (s.latchErr e).rfs = s.rfs := rfl
@[simp] theorem State.latchErr_sess (e : ErrKind) (s : State) : (s.latchErr e).sess = s.sess := rfl
@[simp] theorem State.latchErr_step (e : ErrKind) (s : State) : (s.latchErr e).step = s.step := rfl
@[simp] theorem State.latchErr_cfgAddr (e : ErrKind) (s : State) : (s.latchErr e).cfgAddr = s.cfgAddr := rfl
@[simp] theorem State.latchErr_cfgDump (e : ErrKind) (s : State) : (s.latchErr e).cfgDump = s.cfgDump := rfl
@[simp] theorem State.latchErr_res (e : ErrKind) (s : State) : (s.latchErr e).res = s.res := rfl
@[simp] theorem State.latchErr_busy (e : ErrKind) (s : State) : (s.latchErr e).busy = s.busy := rfl
@[simp] theorem State.latchErr_phase (e : ErrKind) (s : State) : (s.latchErr e).phase = s.phase := rfl
@[simp] theorem State.latchErr_port (e : ErrKind) (s : State) : (s.latchErr e).port = s.port := rfl
@[simp] theorem State.latchErr_chanIn (e : ErrKind) (s : State) : (s.latchErr e).chanIn = s.chanIn := rfl
@[simp] theorem State.latchErr_reads (e : ErrKind) (s : State) : (s.latchErr e).reads = s.reads := rfl
@[simp] theorem State.latchErr_freeReads (e : ErrKind) (s : State) : (s.latchErr e).freeReads = s.freeReads := rfl
@[simp] theorem State.latchErr_chanLog (e : ErrKind) (s : State) : (s.latchErr e).chanLog = s.chanLog := rfl
@[simp] theorem State.latchErr_trace (e : ErrKind) (s : State) : (s.latchErr e).trace = s.trace := rfl
@[simp] theorem State.latchErr_rets (e : ErrKind) (s : State) : (s.latchErr e).rets = s.rets := rfl
@[simp] theorem State.latchErr_hostFaults (e : ErrKind) (s : State) : (s.latchErr e).hostFaults = s.hostFaults := rfl

@[simp] theorem State.latchStatus_crc (code : BitVec 4) (s : State) : (s.latchStatus code).crc = s.crc := rfl
@[simp] theorem State.latchStatus_crcWritten (code : BitVec 4) (s : State) : (s.latchStatus code).crcWritten = s.crcWritten := rfl
@[simp] theorem State.latchStatus_tx (code : BitVec 4) (s : State) : (s.latchStatus code).tx = s.tx := rfl
@[simp] theorem State.latchStatus_txLen (code : BitVec 4) (s : State) : (s.latchStatus code).txLen = s.txLen := rfl
@[simp] theorem State.latchStatus_rx (code : BitVec 4) (s : State) : (s.latchStatus code).rx = s.rx := rfl
@[simp] theorem State.latchStatus_rxLen (code : BitVec 4) (s : State) : (s.latchStatus code).rxLen = s.rxLen := rfl
@[simp] theorem State.latchStatus_err (code : BitVec 4) (s : State) : (s.latchStatus code).err = s.err := rfl
@[simp] theorem State.latchStatus_status (code : BitVec 4) (s : State) : (s.latchStatus code).status = code := rfl
@[simp] theorem State.latchStatus_rfs (code : BitVec 4) (s : State) : (s.latchStatus code).rfs = s.rfs := rfl
@[simp] theorem State.latchStatus_sess (code : BitVec 4) (s : State) : (s.latchStatus code).sess = s.sess := rfl
@[simp] theorem State.latchStatus_step (code : BitVec 4) (s : State) : (s.latchStatus code).step = s.step := rfl
@[simp] theorem State.latchStatus_cfgAddr (code : BitVec 4) (s : State) : (s.latchStatus code).cfgAddr = s.cfgAddr := rfl
@[simp] theorem State.latchStatus_cfgDump (code : BitVec 4) (s : State) : (s.latchStatus code).cfgDump = s.cfgDump := rfl
@[simp] theorem State.latchStatus_res (code : BitVec 4) (s : State) : (s.latchStatus code).res = s.res := rfl
@[simp] theorem State.latchStatus_busy (code : BitVec 4) (s : State) : (s.latchStatus code).busy = s.busy := rfl
@[simp] theorem State.latchStatus_phase (code : BitVec 4) (s : State) : (s.latchStatus code).phase = s.phase := rfl
@[simp] theorem State.latchStatus_port (code : BitVec 4) (s : State) : (s.latchStatus code).port = s.port := rfl
@[simp] theorem State.latchStatus_chanIn (code : BitVec 4) (s : State) : (s.latchStatus code).chanIn = s.chanIn := rfl
@[simp] theorem State.latchStatus_reads (code : BitVec 4) (s : State) : (s.latchStatus code).reads = s.reads := rfl
@[simp] theorem State.latchStatus_freeReads (code : BitVec 4) (s : State) : (s.latchStatus code).freeReads = s.freeReads := rfl
@[simp] theorem State.latchStatus_chanLog (code : BitVec 4) (s : State) : (s.latchStatus code).chanLog = s.chanLog := rfl
@[simp] theorem State.latchStatus_trace (code : BitVec 4) (s : State) : (s.latchStatus code).trace = s.trace := rfl
@[simp] theorem State.latchStatus_rets (code : BitVec 4) (s : State) : (s.latchStatus code).rets = s.rets := rfl
@[simp] theorem State.latchStatus_hostFaults (code : BitVec 4) (s : State) : (s.latchStatus code).hostFaults = s.hostFaults := rfl

@[simp] theorem State.setRfs_crc (s : State) : (s.setRfs).crc = s.crc := rfl
@[simp] theorem State.setRfs_crcWritten (s : State) : (s.setRfs).crcWritten = s.crcWritten := rfl
@[simp] theorem State.setRfs_tx (s : State) : (s.setRfs).tx = s.tx := rfl
@[simp] theorem State.setRfs_txLen (s : State) : (s.setRfs).txLen = s.txLen := rfl
@[simp] theorem State.setRfs_rx (s : State) : (s.setRfs).rx = s.rx := rfl
@[simp] theorem State.setRfs_rxLen (s : State) : (s.setRfs).rxLen = s.rxLen := rfl
@[simp] theorem State.setRfs_err (s : State) : (s.setRfs).err = s.err := rfl
@[simp] theorem State.setRfs_status (s : State) : (s.setRfs).status = s.status := rfl
@[simp] theorem State.setRfs_rfs (s : State) : (s.setRfs).rfs = true := rfl
@[simp] theorem State.setRfs_sess (s : State) : (s.setRfs).sess = s.sess := rfl
@[simp] theorem State.setRfs_step (s : State) : (s.setRfs).step = s.step := rfl
@[simp] theorem State.setRfs_cfgAddr (s : State) : (s.setRfs).cfgAddr = s.cfgAddr := rfl
@[simp] theorem State.setRfs_cfgDump (s : State) : (s.setRfs).cfgDump = s.cfgDump := rfl
@[simp] theorem State.setRfs_res (s : State) : (s.setRfs).res = s.res := rfl
@[simp] theorem State.setRfs_busy (s : State) : (s.setRfs).busy = s.busy := rfl
@[simp] theorem State.setRfs_phase (s : State) : (s.setRfs).phase = s.phase := rfl
@[simp] theorem State.setRfs_port (s : State) : (s.setRfs).port = s.port := rfl
@[simp] theorem State.setRfs_chanIn (s : State) : (s.setRfs).chanIn = s.chanIn := rfl
@[simp] theorem State.setRfs_reads (s : State) : (s.setRfs).reads = s.reads := rfl
@[simp] theorem State.setRfs_freeReads (s : State) : (s.setRfs).freeReads = s.freeReads := rfl
@[simp] theorem State.setRfs_chanLog (s : State) : (s.setRfs).chanLog = s.chanLog := rfl
@[simp] theorem State.setRfs_trace (s : State) : (s.setRfs).trace = s.trace := rfl
@[simp] theorem State.setRfs_rets (s : State) : (s.setRfs).rets = s.rets := rfl
@[simp] theorem State.setRfs_hostFaults (s : State) : (s.setRfs).hostFaults = s.hostFaults := rfl

@[simp] theorem State.putTx_crc (bytes : List Byte) (s : State) : (s.putTx bytes).crc = s.crc := rfl
@[simp] theorem State.putTx_crcWritten (bytes : List Byte) (s : State) : (s.putTx bytes).crcWritten = s.crcWritten := rfl
@[simp] theorem State.putTx_tx (bytes : List Byte) (s : State) : (s.putTx bytes).tx = Memory.ofBytes bytes := rfl
@[simp] theorem State.putTx_txLen (bytes : List Byte) (s : State) : (s.putTx bytes).txLen = bytes.length := rfl
@[simp] theorem State.putTx_rx (bytes : List Byte) (s : State) : (s.putTx bytes).rx = s.rx := rfl
@[simp] theorem State.putTx_rxLen (bytes : List Byte) (s : State) : (s.putTx bytes).rxLen = s.rxLen := rfl
@[simp] theorem State.putTx_err (bytes : List Byte) (s : State) : (s.putTx bytes).err = s.err := rfl
@[simp] theorem State.putTx_status (bytes : List Byte) (s : State) : (s.putTx bytes).status = s.status := rfl
@[simp] theorem State.putTx_rfs (bytes : List Byte) (s : State) : (s.putTx bytes).rfs = s.rfs := rfl
@[simp] theorem State.putTx_sess (bytes : List Byte) (s : State) : (s.putTx bytes).sess = s.sess := rfl
@[simp] theorem State.putTx_step (bytes : List Byte) (s : State) : (s.putTx bytes).step = s.step := rfl
@[simp] theorem State.putTx_cfgAddr (bytes : List Byte) (s : State) : (s.putTx bytes).cfgAddr = s.cfgAddr := rfl
@[simp] theorem State.putTx_cfgDump (bytes : List Byte) (s : State) : (s.putTx bytes).cfgDump = s.cfgDump := rfl
@[simp] theorem State.putTx_res (bytes : List Byte) (s : State) : (s.putTx bytes).res = s.res := rfl
@[simp] theorem State.putTx_busy (bytes : List Byte) (s : State) : (s.putTx bytes).busy = s.busy := rfl
@[simp] theorem State.putTx_phase (bytes : List Byte) (s : State) : (s.putTx bytes).phase = s.phase := rfl
@[simp] theorem State.putTx_port (bytes : List Byte) (s : State) : (s.putTx bytes).port = s.port := rfl
@[simp] theorem State.putTx_chanIn (bytes : List Byte) (s : State) : (s.putTx bytes).chanIn = s.chanIn := rfl
@[simp] theorem State.putTx_reads (bytes : List Byte) (s : State) : (s.putTx bytes).reads = s.reads := rfl
@[simp] theorem State.putTx_freeReads (bytes : List Byte) (s : State) : (s.putTx bytes).freeReads = s.freeReads := rfl
@[simp] theorem State.putTx_chanLog (bytes : List Byte) (s : State) : (s.putTx bytes).chanLog = s.chanLog := rfl
@[simp] theorem State.putTx_trace (bytes : List Byte) (s : State) : (s.putTx bytes).trace = s.trace := rfl
@[simp] theorem State.putTx_rets (bytes : List Byte) (s : State) : (s.putTx bytes).rets = s.rets := rfl
@[simp] theorem State.putTx_hostFaults (bytes : List Byte) (s : State) : (s.putTx bytes).hostFaults = s.hostFaults := rfl

@[simp] theorem State.putRx_crc (bytes : List Byte) (s : State) : (s.putRx bytes).crc = s.crc := rfl
@[simp] theorem State.putRx_crcWritten (bytes : List Byte) (s : State) : (s.putRx bytes).crcWritten = s.crcWritten := rfl
@[simp] theorem State.putRx_tx (bytes : List Byte) (s : State) : (s.putRx bytes).tx = s.tx := rfl
@[simp] theorem State.putRx_txLen (bytes : List Byte) (s : State) : (s.putRx bytes).txLen = s.txLen := rfl
@[simp] theorem State.putRx_rx (bytes : List Byte) (s : State) : (s.putRx bytes).rx = Memory.ofBytes bytes := rfl
@[simp] theorem State.putRx_rxLen (bytes : List Byte) (s : State) : (s.putRx bytes).rxLen = bytes.length := rfl
@[simp] theorem State.putRx_err (bytes : List Byte) (s : State) : (s.putRx bytes).err = s.err := rfl
@[simp] theorem State.putRx_status (bytes : List Byte) (s : State) : (s.putRx bytes).status = s.status := rfl
@[simp] theorem State.putRx_rfs (bytes : List Byte) (s : State) : (s.putRx bytes).rfs = s.rfs := rfl
@[simp] theorem State.putRx_sess (bytes : List Byte) (s : State) : (s.putRx bytes).sess = s.sess := rfl
@[simp] theorem State.putRx_step (bytes : List Byte) (s : State) : (s.putRx bytes).step = s.step := rfl
@[simp] theorem State.putRx_cfgAddr (bytes : List Byte) (s : State) : (s.putRx bytes).cfgAddr = s.cfgAddr := rfl
@[simp] theorem State.putRx_cfgDump (bytes : List Byte) (s : State) : (s.putRx bytes).cfgDump = s.cfgDump := rfl
@[simp] theorem State.putRx_res (bytes : List Byte) (s : State) : (s.putRx bytes).res = s.res := rfl
@[simp] theorem State.putRx_busy (bytes : List Byte) (s : State) : (s.putRx bytes).busy = s.busy := rfl
@[simp] theorem State.putRx_phase (bytes : List Byte) (s : State) : (s.putRx bytes).phase = s.phase := rfl
@[simp] theorem State.putRx_port (bytes : List Byte) (s : State) : (s.putRx bytes).port = s.port := rfl
@[simp] theorem State.putRx_chanIn (bytes : List Byte) (s : State) : (s.putRx bytes).chanIn = s.chanIn := rfl
@[simp] theorem State.putRx_reads (bytes : List Byte) (s : State) : (s.putRx bytes).reads = s.reads := rfl
@[simp] theorem State.putRx_freeReads (bytes : List Byte) (s : State) : (s.putRx bytes).freeReads = s.freeReads := rfl
@[simp] theorem State.putRx_chanLog (bytes : List Byte) (s : State) : (s.putRx bytes).chanLog = s.chanLog := rfl
@[simp] theorem State.putRx_trace (bytes : List Byte) (s : State) : (s.putRx bytes).trace = s.trace := rfl
@[simp] theorem State.putRx_rets (bytes : List Byte) (s : State) : (s.putRx bytes).rets = s.rets := rfl
@[simp] theorem State.putRx_hostFaults (bytes : List Byte) (s : State) : (s.putRx bytes).hostFaults = s.hostFaults := rfl

@[simp] theorem State.setCrc_crc (c : U16) (s : State) : (s.setCrc c).crc = c := rfl
@[simp] theorem State.setCrc_crcWritten (c : U16) (s : State) : (s.setCrc c).crcWritten = true := rfl
@[simp] theorem State.setCrc_tx (c : U16) (s : State) : (s.setCrc c).tx = s.tx := rfl
@[simp] theorem State.setCrc_txLen (c : U16) (s : State) : (s.setCrc c).txLen = s.txLen := rfl
@[simp] theorem State.setCrc_rx (c : U16) (s : State) : (s.setCrc c).rx = s.rx := rfl
@[simp] theorem State.setCrc_rxLen (c : U16) (s : State) : (s.setCrc c).rxLen = s.rxLen := rfl
@[simp] theorem State.setCrc_err (c : U16) (s : State) : (s.setCrc c).err = s.err := rfl
@[simp] theorem State.setCrc_status (c : U16) (s : State) : (s.setCrc c).status = s.status := rfl
@[simp] theorem State.setCrc_rfs (c : U16) (s : State) : (s.setCrc c).rfs = s.rfs := rfl
@[simp] theorem State.setCrc_sess (c : U16) (s : State) : (s.setCrc c).sess = s.sess := rfl
@[simp] theorem State.setCrc_step (c : U16) (s : State) : (s.setCrc c).step = s.step := rfl
@[simp] theorem State.setCrc_cfgAddr (c : U16) (s : State) : (s.setCrc c).cfgAddr = s.cfgAddr := rfl
@[simp] theorem State.setCrc_cfgDump (c : U16) (s : State) : (s.setCrc c).cfgDump = s.cfgDump := rfl
@[simp] theorem State.setCrc_res (c : U16) (s : State) : (s.setCrc c).res = s.res := rfl
@[simp] theorem State.setCrc_busy (c : U16) (s : State) : (s.setCrc c).busy = s.busy := rfl
@[simp] theorem State.setCrc_phase (c : U16) (s : State) : (s.setCrc c).phase = s.phase := rfl
@[simp] theorem State.setCrc_port (c : U16) (s : State) : (s.setCrc c).port = s.port := rfl
@[simp] theorem State.setCrc_chanIn (c : U16) (s : State) : (s.setCrc c).chanIn = s.chanIn := rfl
@[simp] theorem State.setCrc_reads (c : U16) (s : State) : (s.setCrc c).reads = s.reads := rfl
@[simp] theorem State.setCrc_freeReads (c : U16) (s : State) : (s.setCrc c).freeReads = s.freeReads := rfl
@[simp] theorem State.setCrc_chanLog (c : U16) (s : State) : (s.setCrc c).chanLog = s.chanLog := rfl
@[simp] theorem State.setCrc_trace (c : U16) (s : State) : (s.setCrc c).trace = s.trace := rfl
@[simp] theorem State.setCrc_rets (c : U16) (s : State) : (s.setCrc c).rets = s.rets := rfl
@[simp] theorem State.setCrc_hostFaults (c : U16) (s : State) : (s.setCrc c).hostFaults = s.hostFaults := rfl

@[simp] theorem State.setSess_crc (x : Session) (s : State) : (s.setSess x).crc = s.crc := rfl
@[simp] theorem State.setSess_crcWritten (x : Session) (s : State) : (s.setSess x).crcWritten = s.crcWritten := rfl
@[simp] theorem State.setSess_tx (x : Session) (s : State) : (s.setSess x).tx = s.tx := rfl
@[simp] theorem State.setSess_txLen (x : Session) (s : State) : (s.setSess x).txLen = s.txLen := rfl
@[simp] theorem State.setSess_rx (x : Session) (s : State) : (s.setSess x).rx = s.rx := rfl
@[simp] theorem State.setSess_rxLen (x : Session) (s : State) : (s.setSess x).rxLen = s.rxLen := rfl
@[simp] theorem State.setSess_err (x : Session) (s : State) : (s.setSess x).err = s.err := rfl
@[simp] theorem State.setSess_status (x : Session) (s : State) : (s.setSess x).status = s.status := rfl
@[simp] theorem State.setSess_rfs (x : Session) (s : State) : (s.setSess x).rfs = s.rfs := rfl
@[simp] theorem State.setSess_sess (x : Session) (s : State) : (s.setSess x).sess = x := rfl
@[simp] theorem State.setSess_step (x : Session) (s : State) : (s.setSess x).step = s.step := rfl
@[simp] theorem State.setSess_cfgAddr (x : Session) (s : State) : (s.setSess x).cfgAddr = s.cfgAddr := rfl
@[simp] theorem State.setSess_cfgDump (x : Session) (s : State) : (s.setSess x).cfgDump = s.cfgDump := rfl
@[simp] theorem State.setSess_res (x : Session) (s : State) : (s.setSess x).res = s.res := rfl
@[simp] theorem State.setSess_busy (x : Session) (s : State) : (s.setSess x).busy = s.busy := rfl
@[simp] theorem State.setSess_phase (x : Session) (s : State) : (s.setSess x).phase = s.phase := rfl
@[simp] theorem State.setSess_port (x : Session) (s : State) : (s.setSess x).port = s.port := rfl
@[simp] theorem State.setSess_chanIn (x : Session) (s : State) : (s.setSess x).chanIn = s.chanIn := rfl
@[simp] theorem State.setSess_reads (x : Session) (s : State) : (s.setSess x).reads = s.reads := rfl
@[simp] theorem State.setSess_freeReads (x : Session) (s : State) : (s.setSess x).freeReads = s.freeReads := rfl
@[simp] theorem State.setSess_chanLog (x : Session) (s : State) : (s.setSess x).chanLog = s.chanLog := rfl
@[simp] theorem State.setSess_trace (x : Session) (s : State) : (s.setSess x).trace = s.trace := rfl
@[simp] theorem State.setSess_rets (x : Session) (s : State) : (s.setSess x).rets = s.rets := rfl
@[simp] theorem State.setSess_hostFaults (x : Session) (s : State) : (s.setSess x).hostFaults = s.hostFaults := rfl

@[simp] theorem State.setPhase_crc (p : Phase) (s : State) : (s.setPhase p).crc = s.crc := rfl
@[simp] theorem State.setPhase_crcWritten (p : Phase) (s : State) : (s.setPhase p).crcWritten = s.crcWritten := rfl
@[simp] theorem State.setPhase_tx (p : Phase) (s : State) : (s.setPhase p).tx = s.tx := rfl
@[simp] theorem State.setPhase_txLen (p : Phase) (s : State) : (s.setPhase p).txLen = s.txLen := rfl
@[simp] theorem State.setPhase_rx (p : Phase) (s : State) : (s.setPhase p).rx = s.rx := rfl
@[simp] theorem State.setPhase_rxLen (p : Phase) (s : State) : (s.setPhase p).rxLen = s.rxLen := rfl
@[simp] theorem State.setPhase_err (p : Phase) (s : State) : (s.setPhase p).err = s.err := rfl
@[simp] theorem State.setPhase_status (p : Phase) (s : State) : (s.setPhase p).status = s.status := rfl
@[simp] theorem State.setPhase_rfs (p : Phase) (s : State) : (s.setPhase p).rfs = s.rfs := rfl
@[simp] theorem State.setPhase_sess (p : Phase) (s : State) : (s.setPhase p).sess = s.sess := rfl
@[simp] theorem State.setPhase_step (p : Phase) (s : State) : (s.setPhase p).step = s.step := rfl
@[simp] theorem State.setPhase_cfgAddr (p : Phase) (s : State) : (s.setPhase p).cfgAddr = s.cfgAddr := rfl
@[simp] theorem State.setPhase_cfgDump (p : Phase) (s : State) : (s.setPhase p).cfgDump = s.cfgDump := rfl
@[simp] theorem State.setPhase_res (p : Phase) (s : State) : (s.setPhase p).res = s.res := rfl
@[simp] theorem State.setPhase_busy (p : Phase) (s : State) : (s.setPhase p).busy = s.busy := rfl
@[simp] theorem State.setPhase_phase (p : Phase) (s : State) : (s.setPhase p).phase = p := rfl
@[simp] theorem State.setPhase_port (p : Phase) (s : State) : (s.setPhase p).port = s.port := rfl
@[simp] theorem State.setPhase_chanIn (p : Phase) (s : State) : (s.setPhase p).chanIn = s.chanIn := rfl
@[simp] theorem State.setPhase_reads (p : Phase) (s : State) : (s.setPhase p).reads = s.reads := rfl
@[simp] theorem State.setPhase_freeReads (p : Phase) (s : State) : (s.setPhase p).freeReads = s.freeReads := rfl
@[simp] theorem State.setPhase_chanLog (p : Phase) (s : State) : (s.setPhase p).chanLog = s.chanLog := rfl
@[simp] theorem State.setPhase_trace (p : Phase) (s : State) : (s.setPhase p).trace = s.trace := rfl
@[simp] theorem State.setPhase_rets (p : Phase) (s : State) : (s.setPhase p).rets = s.rets := rfl
@[simp] theorem State.setPhase_hostFaults (p : Phase) (s : State) : (s.setPhase p).hostFaults = s.hostFaults := rfl

@[simp] theorem State.setStep_crc (k : Nat) (s : State) : (s.setStep k).crc = s.crc := rfl
@[simp] theorem State.setStep_crcWritten (k : Nat) (s : State) : (s.setStep k).crcWritten = s.crcWritten := rfl
@[simp] theorem State.setStep_tx (k : Nat) (s : State) : (s.setStep k).tx = s.tx := rfl
@[simp] theorem State.setStep_txLen (k : Nat) (s : State) : (s.setStep k).txLen = s.txLen := rfl
@[simp] theorem State.setStep_rx (k : Nat) (s : State) : (s.setStep k).rx = s.rx := rfl
@[simp] theorem State.setStep_rxLen (k : Nat) (s : State) : (s.setStep k).rxLen = s.rxLen := rfl
@[simp] theorem State.setStep_err (k : Nat) (s : State) : (s.setStep k).err = s.err := rfl
@[simp] theorem State.setStep_status (k : Nat) (s : State) : (s.setStep k).status = s.status := rfl
@[simp] theorem State.setStep_rfs (k : Nat) (s : State) : (s.setStep k).rfs = s.rfs := rfl
@[simp] theorem State.setStep_sess (k : Nat) (s : State) : (s.setStep k).sess = s.sess := rfl
@[simp] theorem State.setStep_step (k : Nat) (s : State) : (s.setStep k).step = BitVec.ofNat 4 k := rfl
@[simp] theorem State.setStep_cfgAddr (k : Nat) (s : State) : (s.setStep k).cfgAddr = s.cfgAddr := rfl
@[simp] theorem State.setStep_cfgDump (k : Nat) (s : State) : (s.setStep k).cfgDump = s.cfgDump := rfl
@[simp] theorem State.setStep_res (k : Nat) (s : State) : (s.setStep k).res = s.res := rfl
@[simp] theorem State.setStep_busy (k : Nat) (s : State) : (s.setStep k).busy = s.busy := rfl
@[simp] theorem State.setStep_phase (k : Nat) (s : State) : (s.setStep k).phase = s.phase := rfl
@[simp] theorem State.setStep_port (k : Nat) (s : State) : (s.setStep k).port = s.port := rfl
@[simp] theorem State.setStep_chanIn (k : Nat) (s : State) : (s.setStep k).chanIn = s.chanIn := rfl
@[simp] theorem State.setStep_reads (k : Nat) (s : State) : (s.setStep k).reads = s.reads := rfl
@[simp] theorem State.setStep_freeReads (k : Nat) (s : State) : (s.setStep k).freeReads = s.freeReads := rfl
@[simp] theorem State.setStep_chanLog (k : Nat) (s : State) : (s.setStep k).chanLog = s.chanLog := rfl
@[simp] theorem State.setStep_trace (k : Nat) (s : State) : (s.setStep k).trace = s.trace := rfl
@[simp] theorem State.setStep_rets (k : Nat) (s : State) : (s.setStep k).rets = s.rets := rfl
@[simp] theorem State.setStep_hostFaults (k : Nat) (s : State) : (s.setStep k).hostFaults = s.hostFaults := rfl

@[simp] theorem State.zeroRes_crc (s : State) : (s.zeroRes).crc = s.crc := rfl
@[simp] theorem State.zeroRes_crcWritten (s : State) : (s.zeroRes).crcWritten = s.crcWritten := rfl
@[simp] theorem State.zeroRes_tx (s : State) : (s.zeroRes).tx = s.tx := rfl
@[simp] theorem State.zeroRes_txLen (s : State) : (s.zeroRes).txLen = s.txLen := rfl
@[simp] theorem State.zeroRes_rx (s : State) : (s.zeroRes).rx = s.rx := rfl
@[simp] theorem State.zeroRes_rxLen (s : State) : (s.zeroRes).rxLen = s.rxLen := rfl
@[simp] theorem State.zeroRes_err (s : State) : (s.zeroRes).err = s.err := rfl
@[simp] theorem State.zeroRes_status (s : State) : (s.zeroRes).status = s.status := rfl
@[simp] theorem State.zeroRes_rfs (s : State) : (s.zeroRes).rfs = s.rfs := rfl
@[simp] theorem State.zeroRes_sess (s : State) : (s.zeroRes).sess = s.sess := rfl
@[simp] theorem State.zeroRes_step (s : State) : (s.zeroRes).step = s.step := rfl
@[simp] theorem State.zeroRes_cfgAddr (s : State) : (s.zeroRes).cfgAddr = s.cfgAddr := rfl
@[simp] theorem State.zeroRes_cfgDump (s : State) : (s.zeroRes).cfgDump = s.cfgDump := rfl
@[simp] theorem State.zeroRes_res (s : State) : (s.zeroRes).res = Vector.replicate 34 0 := rfl
@[simp] theorem State.zeroRes_busy (s : State) : (s.zeroRes).busy = s.busy := rfl
@[simp] theorem State.zeroRes_phase (s : State) : (s.zeroRes).phase = s.phase := rfl
@[simp] theorem State.zeroRes_port (s : State) : (s.zeroRes).port = s.port := rfl
@[simp] theorem State.zeroRes_chanIn (s : State) : (s.zeroRes).chanIn = s.chanIn := rfl
@[simp] theorem State.zeroRes_reads (s : State) : (s.zeroRes).reads = s.reads := rfl
@[simp] theorem State.zeroRes_freeReads (s : State) : (s.zeroRes).freeReads = s.freeReads := rfl
@[simp] theorem State.zeroRes_chanLog (s : State) : (s.zeroRes).chanLog = s.chanLog := rfl
@[simp] theorem State.zeroRes_trace (s : State) : (s.zeroRes).trace = s.trace := rfl
@[simp] theorem State.zeroRes_rets (s : State) : (s.zeroRes).rets = s.rets := rfl
@[simp] theorem State.zeroRes_hostFaults (s : State) : (s.zeroRes).hostFaults = s.hostFaults := rfl

@[simp] theorem State.writeGroup_crc (d : Nat) (raws : List U32) (s : State) : (s.writeGroup d raws).crc = s.crc := rfl
@[simp] theorem State.writeGroup_crcWritten (d : Nat) (raws : List U32) (s : State) : (s.writeGroup d raws).crcWritten = s.crcWritten := rfl
@[simp] theorem State.writeGroup_tx (d : Nat) (raws : List U32) (s : State) : (s.writeGroup d raws).tx = s.tx := rfl
@[simp] theorem State.writeGroup_txLen (d : Nat) (raws : List U32) (s : State) : (s.writeGroup d raws).txLen = s.txLen := rfl
@[simp] theorem State.writeGroup_rx (d : Nat) (raws : List U32) (s : State) : (s.writeGroup d raws).rx = s.rx := rfl
@[simp] theorem State.writeGroup_rxLen (d : Nat) (raws : List U32) (s : State) : (s.writeGroup d raws).rxLen = s.rxLen := rfl
@[simp] theorem State.writeGroup_err (d : Nat) (raws : List U32) (s : State) : (s.writeGroup d raws).err = s.err := rfl
@[simp] theorem State.writeGroup_status (d : Nat) (raws : List U32) (s : State) : (s.writeGroup d raws).status = s.status := rfl
@[simp] theorem State.writeGroup_rfs (d : Nat) (raws : List U32) (s : State) : (s.writeGroup d raws).rfs = s.rfs := rfl
@[simp] theorem State.writeGroup_sess (d : Nat) (raws : List U32) (s : State) : (s.writeGroup d raws).sess = s.sess := rfl
@[simp] theorem State.writeGroup_step (d : Nat) (raws : List U32) (s : State) : (s.writeGroup d raws).step = s.step := rfl
@[simp] theorem State.writeGroup_cfgAddr (d : Nat) (raws : List U32) (s : State) : (s.writeGroup d raws).cfgAddr = s.cfgAddr := rfl
@[simp] theorem State.writeGroup_cfgDump (d : Nat) (raws : List U32) (s : State) : (s.writeGroup d raws).cfgDump = s.cfgDump := rfl
@[simp] theorem State.writeGroup_res (d : Nat) (raws : List U32) (s : State) : (s.writeGroup d raws).res = groupWritten d raws s.res := rfl
@[simp] theorem State.writeGroup_busy (d : Nat) (raws : List U32) (s : State) : (s.writeGroup d raws).busy = s.busy := rfl
@[simp] theorem State.writeGroup_phase (d : Nat) (raws : List U32) (s : State) : (s.writeGroup d raws).phase = s.phase := rfl
@[simp] theorem State.writeGroup_port (d : Nat) (raws : List U32) (s : State) : (s.writeGroup d raws).port = s.port := rfl
@[simp] theorem State.writeGroup_chanIn (d : Nat) (raws : List U32) (s : State) : (s.writeGroup d raws).chanIn = s.chanIn := rfl
@[simp] theorem State.writeGroup_reads (d : Nat) (raws : List U32) (s : State) : (s.writeGroup d raws).reads = s.reads := rfl
@[simp] theorem State.writeGroup_freeReads (d : Nat) (raws : List U32) (s : State) : (s.writeGroup d raws).freeReads = s.freeReads := rfl
@[simp] theorem State.writeGroup_chanLog (d : Nat) (raws : List U32) (s : State) : (s.writeGroup d raws).chanLog = s.chanLog := rfl
@[simp] theorem State.writeGroup_trace (d : Nat) (raws : List U32) (s : State) : (s.writeGroup d raws).trace = s.trace := rfl
@[simp] theorem State.writeGroup_rets (d : Nat) (raws : List U32) (s : State) : (s.writeGroup d raws).rets = s.rets := rfl
@[simp] theorem State.writeGroup_hostFaults (d : Nat) (raws : List U32) (s : State) : (s.writeGroup d raws).hostFaults = s.hostFaults := rfl

@[simp] theorem State.chanWrite_crc (s : State) : (s.chanWrite).crc = s.crc := rfl
@[simp] theorem State.chanWrite_crcWritten (s : State) : (s.chanWrite).crcWritten = s.crcWritten := rfl
@[simp] theorem State.chanWrite_tx (s : State) : (s.chanWrite).tx = s.tx := rfl
@[simp] theorem State.chanWrite_txLen (s : State) : (s.chanWrite).txLen = s.txLen := rfl
@[simp] theorem State.chanWrite_rx (s : State) : (s.chanWrite).rx = s.rx := rfl
@[simp] theorem State.chanWrite_rxLen (s : State) : (s.chanWrite).rxLen = s.rxLen := rfl
@[simp] theorem State.chanWrite_err (s : State) : (s.chanWrite).err = s.err := rfl
@[simp] theorem State.chanWrite_status (s : State) : (s.chanWrite).status = s.status := rfl
@[simp] theorem State.chanWrite_rfs (s : State) : (s.chanWrite).rfs = s.rfs := rfl
@[simp] theorem State.chanWrite_sess (s : State) : (s.chanWrite).sess = s.sess := rfl
@[simp] theorem State.chanWrite_step (s : State) : (s.chanWrite).step = s.step := rfl
@[simp] theorem State.chanWrite_cfgAddr (s : State) : (s.chanWrite).cfgAddr = s.cfgAddr := rfl
@[simp] theorem State.chanWrite_cfgDump (s : State) : (s.chanWrite).cfgDump = s.cfgDump := rfl
@[simp] theorem State.chanWrite_res (s : State) : (s.chanWrite).res = s.res := rfl
@[simp] theorem State.chanWrite_busy (s : State) : (s.chanWrite).busy = s.busy := rfl
@[simp] theorem State.chanWrite_phase (s : State) : (s.chanWrite).phase = s.phase := rfl
@[simp] theorem State.chanWrite_port (s : State) : (s.chanWrite).port = s.port := rfl
@[simp] theorem State.chanWrite_chanIn (s : State) : (s.chanWrite).chanIn = s.chanIn := rfl
@[simp] theorem State.chanWrite_reads (s : State) : (s.chanWrite).reads = s.reads := rfl
@[simp] theorem State.chanWrite_freeReads (s : State) : (s.chanWrite).freeReads = s.freeReads := rfl
@[simp] theorem State.chanWrite_chanLog (s : State) : (s.chanWrite).chanLog = s.chanLog ++ [.write s.txBytes] := rfl
@[simp] theorem State.chanWrite_trace (s : State) : (s.chanWrite).trace = s.dumped s.txBytes := rfl
@[simp] theorem State.chanWrite_rets (s : State) : (s.chanWrite).rets = s.rets := rfl
@[simp] theorem State.chanWrite_hostFaults (s : State) : (s.chanWrite).hostFaults = s.hostFaults := rfl

@[simp] theorem State.settle_crc (s : State) : (s.settle).crc = s.crc := rfl
@[simp] theorem State.settle_crcWritten (s : State) : (s.settle).crcWritten = s.crcWritten := rfl
@[simp] theorem State.settle_tx (s : State) : (s.settle).tx = s.tx := rfl
@[simp] theorem State.settle_txLen (s : State) : (s.settle).txLen = s.txLen := rfl
@[simp] theorem State.settle_rx (s : State) : (s.settle).rx = s.rx := rfl
@[simp] theorem State.settle_rxLen (s : State) : (s.settle).rxLen = s.rxLen := rfl
@[simp] theorem State.settle_err (s : State) : (s.settle).err = s.err := rfl
@[simp] theorem State.settle_status (s : State) : (s.settle).status = s.status := rfl
@[simp] theorem State.settle_rfs (s : State) : (s.settle).rfs = s.rfs := rfl
@[simp] theorem State.settle_sess (s : State) : (s.settle).sess = s.sess := rfl
@[simp] theorem State.settle_step (s : State) : (s.settle).step = s.step := rfl
@[simp] theorem State.settle_cfgAddr (s : State) : (s.settle).cfgAddr = s.cfgAddr := rfl
@[simp] theorem State.settle_cfgDump (s : State) : (s.settle).cfgDump = s.cfgDump := rfl
@[simp] theorem State.settle_res (s : State) : (s.settle).res = s.res := rfl
@[simp] theorem State.settle_busy (s : State) : (s.settle).busy = s.busy := rfl
@[simp] theorem State.settle_phase (s : State) : (s.settle).phase = s.phase := rfl
@[simp] theorem State.settle_port (s : State) : (s.settle).port = s.port := rfl
@[simp] theorem State.settle_chanIn (s : State) : (s.settle).chanIn = s.chanIn := rfl
@[simp] theorem State.settle_reads (s : State) : (s.settle).reads = s.reads := rfl
@[simp] theorem State.settle_freeReads (s : State) : (s.settle).freeReads = s.freeReads := rfl
@[simp] theorem State.settle_chanLog (s : State) : (s.settle).chanLog = s.chanLog ++ [.settle] := rfl
@[simp] theorem State.settle_trace (s : State) : (s.settle).trace = s.trace := rfl
@[simp] theorem State.settle_rets (s : State) : (s.settle).rets = s.rets := rfl
@[simp] theorem State.settle_hostFaults (s : State) : (s.settle).hostFaults = s.hostFaults := rfl

@[simp] theorem State.chanRead_crc (t : Timeout) (s : State) : (s.chanRead t).crc = s.crc := rfl
@[simp] theorem State.chanRead_crcWritten (t : Timeout) (s : State) : (s.chanRead t).crcWritten = s.crcWritten := rfl
@[simp] theorem State.chanRead_tx (t : Timeout) (s : State) : (s.chanRead t).tx = s.tx := rfl
@[simp] theorem State.chanRead_txLen (t : Timeout) (s : State) : (s.chanRead t).txLen = s.txLen := rfl
@[simp] theorem State.chanRead_rx (t : Timeout) (s : State) : (s.chanRead t).rx = Memory.ofBytes s.chanReply := rfl
@[simp] theorem State.chanRead_rxLen (t : Timeout) (s : State) : (s.chanRead t).rxLen = s.chanReply.length := rfl
@[simp] theorem State.chanRead_err (t : Timeout) (s : State) : (s.chanRead t).err = s.err := rfl
@[simp] theorem State.chanRead_status (t : Timeout) (s : State) : (s.chanRead t).status = s.status := rfl
@[simp] theorem State.chanRead_rfs (t : Timeout) (s : State) : (s.chanRead t).rfs = s.rfs := rfl
@[simp] theorem State.chanRead_sess (t : Timeout) (s : State) : (s.chanRead t).sess = s.sess := rfl
@[simp] theorem State.chanRead_step (t : Timeout) (s : State) : (s.chanRead t).step = s.step := rfl
@[simp] theorem State.chanRead_cfgAddr (t : Timeout) (s : State) : (s.chanRead t).cfgAddr = s.cfgAddr := rfl
@[simp] theorem State.chanRead_cfgDump (t : Timeout) (s : State) : (s.chanRead t).cfgDump = s.cfgDump := rfl
@[simp] theorem State.chanRead_res (t : Timeout) (s : State) : (s.chanRead t).res = s.res := rfl
@[simp] theorem State.chanRead_busy (t : Timeout) (s : State) : (s.chanRead t).busy = s.busy := rfl
@[simp] theorem State.chanRead_phase (t : Timeout) (s : State) : (s.chanRead t).phase = s.phase := rfl
@[simp] theorem State.chanRead_port (t : Timeout) (s : State) : (s.chanRead t).port = s.port := rfl
@[simp] theorem State.chanRead_chanIn (t : Timeout) (s : State) : (s.chanRead t).chanIn = s.chanIn.tail := rfl
@[simp] theorem State.chanRead_reads (t : Timeout) (s : State) : (s.chanRead t).reads = s.reads + 1 := rfl
@[simp] theorem State.chanRead_freeReads (t : Timeout) (s : State) : (s.chanRead t).freeReads = s.freeReads := rfl
@[simp] theorem State.chanRead_chanLog (t : Timeout) (s : State) : (s.chanRead t).chanLog = s.chanLog ++ [.read t s.chanReply] := rfl
@[simp] theorem State.chanRead_trace (t : Timeout) (s : State) : (s.chanRead t).trace = s.dumped s.chanReply := rfl
@[simp] theorem State.chanRead_rets (t : Timeout) (s : State) : (s.chanRead t).rets = s.rets := rfl
@[simp] theorem State.chanRead_hostFaults (t : Timeout) (s : State) : (s.chanRead t).hostFaults = s.hostFaults := rfl

@[simp] theorem State.giveBack_crc (r : OpResult) (s : State) : (s.giveBack r).crc = s.crc := rfl
@[simp] theorem State.giveBack_crcWritten (r : OpResult) (s : State) : (s.giveBack r).crcWritten = s.crcWritten := rfl
@[simp] theorem State.giveBack_tx (r : OpResult) (s : State) : (s.giveBack r).tx = s.tx := rfl
@[simp] theorem State.giveBack_txLen (r : OpResult) (s : State) : (s.giveBack r).txLen = s.txLen := rfl
@[simp] theorem State.giveBack_rx (r : OpResult) (s : State) : (s.giveBack r).rx = s.rx := rfl
@[simp] theorem State.giveBack_rxLen (r : OpResult) (s : State) : (s.giveBack r).rxLen = s.rxLen := rfl
@[simp] theorem State.giveBack_err (r : OpResult) (s : State) : (s.giveBack r).err = s.err := rfl
@[simp] theorem State.giveBack_status (r : OpResult) (s : State) : (s.giveBack r).status = s.status := rfl
@[simp] theorem State.giveBack_rfs (r : OpResult) (s : State) : (s.giveBack r).rfs = s.rfs := rfl
@[simp] theorem State.giveBack_sess (r : OpResult) (s : State) : (s.giveBack r).sess = s.sess := rfl
@[simp] theorem State.giveBack_step (r : OpResult) (s : State) : (s.giveBack r).step = s.step := rfl
@[simp] theorem State.giveBack_cfgAddr (r : OpResult) (s : State) : (s.giveBack r).cfgAddr = s.cfgAddr := rfl
@[simp] theorem State.giveBack_cfgDump (r : OpResult) (s : State) : (s.giveBack r).cfgDump = s.cfgDump := rfl
@[simp] theorem State.giveBack_res (r : OpResult) (s : State) : (s.giveBack r).res = s.res := rfl
@[simp] theorem State.giveBack_busy (r : OpResult) (s : State) : (s.giveBack r).busy = s.busy := rfl
@[simp] theorem State.giveBack_phase (r : OpResult) (s : State) : (s.giveBack r).phase = s.phase := rfl
@[simp] theorem State.giveBack_port (r : OpResult) (s : State) : (s.giveBack r).port = s.port := rfl
@[simp] theorem State.giveBack_chanIn (r : OpResult) (s : State) : (s.giveBack r).chanIn = s.chanIn := rfl
@[simp] theorem State.giveBack_reads (r : OpResult) (s : State) : (s.giveBack r).reads = s.reads := rfl
@[simp] theorem State.giveBack_freeReads (r : OpResult) (s : State) : (s.giveBack r).freeReads = s.freeReads := rfl
@[simp] theorem State.giveBack_chanLog (r : OpResult) (s : State) : (s.giveBack r).chanLog = s.chanLog := rfl
@[simp] theorem State.giveBack_trace (r : OpResult) (s : State) : (s.giveBack r).trace = s.trace := rfl
@[simp] theorem State.giveBack_rets (r : OpResult) (s : State) : (s.giveBack r).rets = s.rets ++ [r] := rfl
@[simp] theorem State.giveBack_hostFaults (r : OpResult) (s : State) : (s.giveBack r).hostFaults = s.hostFaults := rfl

@[simp] theorem State.setBusy_crc (b : Bool) (s : State) : (s.setBusy b).crc = s.crc := rfl
@[simp] theorem State.setBusy_crcWritten (b : Bool) (s : State) : (s.setBusy b).crcWritten = s.crcWritten := rfl
@[simp] theorem State.setBusy_tx (b : Bool) (s : State) : (s.setBusy b).tx = s.tx := rfl
@[simp] theorem State.setBusy_txLen (b : Bool) (s : State) : (s.setBusy b).txLen = s.txLen := rfl
@[simp] theorem State.setBusy_rx (b : Bool) (s : State) : (s.setBusy b).rx = s.rx := rfl
@[simp] theorem State.setBusy_rxLen (b : Bool) (s : State) : (s.setBusy b).rxLen = s.rxLen := rfl
@[simp] theorem State.setBusy_err (b : Bool) (s : State) : (s.setBusy b).err = s.err := rfl
@[simp] theorem State.setBusy_status (b : Bool) (s : State) : (s.setBusy b).status = s.status := rfl
@[simp] theorem State.setBusy_rfs (b : Bool) (s : State) : (s.setBusy b).rfs = s.rfs := rfl
@[simp] theorem State.setBusy_sess (b : Bool) (s : State) : (s.setBusy b).sess = s.sess := rfl
@[simp] theorem State.setBusy_step (b : Bool) (s : State) : (s.setBusy b).step = s.step := rfl
@[simp] theorem State.setBusy_cfgAddr (b : Bool) (s : State) : (s.setBusy b).cfgAddr = s.cfgAddr := rfl
@[simp] theorem State.setBusy_cfgDump (b : Bool) (s : State) : (s.setBusy b).cfgDump = s.cfgDump := rfl
@[simp] theorem State.setBusy_res (b : Bool) (s : State) : (s.setBusy b).res = s.res := rfl
@[simp] theorem State.setBusy_busy (b : Bool) (s : State) : (s.setBusy b).busy = b := rfl
@[simp] theorem State.setBusy_phase (b : Bool) (s : State) : (s.setBusy b).phase = s.phase := rfl
@[simp] theorem State.setBusy_port (b : Bool) (s : State) : (s.setBusy b).port = s.port := rfl
@[simp] theorem State.setBusy_chanIn (b : Bool) (s : State) : (s.setBusy b).chanIn = s.chanIn := rfl
@[simp] theorem State.setBusy_reads (b : Bool) (s : State) : (s.setBusy b).reads = s.reads := rfl
@[simp] theorem State.setBusy_freeReads (b : Bool) (s : State) : (s.setBusy b).freeReads = s.freeReads := rfl
@[simp] theorem State.setBusy_chanLog (b : Bool) (s : State) : (s.setBusy b).chanLog = s.chanLog := rfl
@[simp] theorem State.setBusy_trace (b : Bool) (s : State) : (s.setBusy b).trace = s.trace := rfl
@[simp] theorem State.setBusy_rets (b : Bool) (s : State) : (s.setBusy b).rets = s.rets := rfl
@[simp] theorem State.setBusy_hostFaults (b : Bool) (s : State) : (s.setBusy b).hostFaults = s.hostFaults := rfl

@[simp] theorem State.runCrc_crc (bytes : List Byte) (s : State) : (s.runCrc bytes).crc = crc16 bytes := rfl
@[simp] theorem State.runCrc_crcWritten (bytes : List Byte) (s : State) : (s.runCrc bytes).crcWritten = true := rfl
@[simp] theorem State.runCrc_tx (bytes : List Byte) (s : State) : (s.runCrc bytes).tx = s.tx := rfl
@[simp] theorem State.runCrc_txLen (bytes : List Byte) (s : State) : (s.runCrc bytes).txLen = s.txLen := rfl
@[simp] theorem State.runCrc_rx (bytes : List Byte) (s : State) : (s.runCrc bytes).rx = s.rx := rfl
@[simp] theorem State.runCrc_rxLen (bytes : List Byte) (s : State) : (s.runCrc bytes).rxLen = s.rxLen := rfl
@[simp] theorem State.runCrc_err (bytes : List Byte) (s : State) : (s.runCrc bytes).err = s.err := rfl
@[simp] theorem State.runCrc_status (bytes : List Byte) (s : State) : (s.runCrc bytes).status = s.status := rfl
@[simp] theorem State.runCrc_rfs (bytes : List Byte) (s : State) : (s.runCrc bytes).rfs = s.rfs := rfl
@[simp] theorem State.runCrc_sess (bytes : List Byte) (s : State) : (s.runCrc bytes).sess = s.sess := rfl
@[simp] theorem State.runCrc_step (bytes : List Byte) (s : State) : (s.runCrc bytes).step = s.step := rfl
@[simp] theorem State.runCrc_cfgAddr (bytes : List Byte) (s : State) : (s.runCrc bytes).cfgAddr = s.cfgAddr := rfl
@[simp] theorem State.runCrc_cfgDump (bytes : List Byte) (s : State) : (s.runCrc bytes).cfgDump = s.cfgDump := rfl
@[simp] theorem State.runCrc_res (bytes : List Byte) (s : State) : (s.runCrc bytes).res = s.res := rfl
@[simp] theorem State.runCrc_busy (bytes : List Byte) (s : State) : (s.runCrc bytes).busy = s.busy := rfl
@[simp] theorem State.runCrc_phase (bytes : List Byte) (s : State) : (s.runCrc bytes).phase = s.phase := rfl
@[simp] theorem State.runCrc_port (bytes : List Byte) (s : State) : (s.runCrc bytes).port = s.port := rfl
@[simp] theorem State.runCrc_chanIn (bytes : List Byte) (s : State) : (s.runCrc bytes).chanIn = s.chanIn := rfl
@[simp] theorem State.runCrc_reads (bytes : List Byte) (s : State) : (s.runCrc bytes).reads = s.reads := rfl
@[simp] theorem State.runCrc_freeReads (bytes : List Byte) (s : State) : (s.runCrc bytes).freeReads = s.freeReads := rfl
@[simp] theorem State.runCrc_chanLog (bytes : List Byte) (s : State) : (s.runCrc bytes).chanLog = s.chanLog := rfl
@[simp] theorem State.runCrc_trace (bytes : List Byte) (s : State) : (s.runCrc bytes).trace = s.trace := rfl
@[simp] theorem State.runCrc_rets (bytes : List Byte) (s : State) : (s.runCrc bytes).rets = s.rets := rfl
@[simp] theorem State.runCrc_hostFaults (bytes : List Byte) (s : State) : (s.runCrc bytes).hostFaults = s.hostFaults := rfl

@[simp] theorem State.build_crc (payload : List Byte) (s : State) : (s.build payload).crc = crc16 (s.cfgAddr :: payload) := rfl
@[simp] theorem State.build_crcWritten (payload : List Byte) (s : State) : (s.build payload).crcWritten = true := rfl
@[simp] theorem State.build_tx (payload : List Byte) (s : State) : (s.build payload).tx = Memory.ofBytes (frameOf (s.cfgAddr :: payload)) := rfl
@[simp] theorem State.build_txLen (payload : List Byte) (s : State) : (s.build payload).txLen = (frameOf (s.cfgAddr :: payload)).length := rfl
@[simp] theorem State.build_rx (payload : List Byte) (s : State) : (s.build payload).rx = s.rx := rfl
@[simp] theorem State.build_rxLen (payload : List Byte) (s : State) : (s.build payload).rxLen = s.rxLen := rfl
@[simp] theorem State.build_err (payload : List Byte) (s : State) : (s.build payload).err = s.err := rfl
@[simp] theorem State.build_status (payload : List Byte) (s : State) : (s.build payload).status = s.status := rfl
@[simp] theorem State.build_rfs (payload : List Byte) (s : State) : (s.build payload).rfs = s.rfs := rfl
@[simp] theorem State.build_sess (payload : List Byte) (s : State) : (s.build payload).sess = s.sess := rfl
@[simp] theorem State.build_step (payload : List Byte) (s : State) : (s.build payload).step = s.step := rfl
@[simp] theorem State.build_cfgAddr (payload : List Byte) (s : State) : (s.build payload).cfgAddr = s.cfgAddr := rfl
@[simp] theorem State.build_cfgDump (payload : List Byte) (s : State) : (s.build payload).cfgDump = s.cfgDump := rfl
@[simp] theorem State.build_res (payload : List Byte) (s : State) : (s.build payload).res = s.res := rfl
@[simp] theorem State.build_busy (payload : List Byte) (s : State) : (s.build payload).busy = s.busy := rfl
@[simp] theorem State.build_phase (payload : List Byte) (s : State) : (s.build payload).phase = s.phase := rfl
@[simp] theorem State.build_port (payload : List Byte) (s : State) : (s.build payload).port = s.port := rfl
@[simp] theorem State.build_chanIn (payload : List Byte) (s : State) : (s.build payload).chanIn = s.chanIn := rfl
@[simp] theorem State.build_reads (payload : List Byte) (s : State) : (s.build payload).reads = s.reads := rfl
@[simp] theorem State.build_freeReads (payload : List Byte) (s : State) : (s.build payload).freeReads = s.freeReads := rfl
@[simp] theorem State.build_chanLog (payload : List Byte) (s : State) : (s.build payload).chanLog = s.chanLog := rfl
@[simp] theorem State.build_trace (payload : List Byte) (s : State) : (s.build payload).trace = s.trace := rfl
@[simp] theorem State.build_rets (payload : List Byte) (s : State) : (s.build payload).rets = s.rets := rfl
@[simp] theorem State.build_hostFaults (payload : List Byte) (s : State) : (s.build payload).hostFaults = s.hostFaults := rfl

/-- `abort` latches the error's code, (R170). -/
@[simp] theorem State.abort_err (e : ErrKind) (s : State) : (s.abort e).err = errCode e := by
  cases e <;> rfl

@[simp] theorem State.abort_status (e : ErrKind) (s : State) : (s.abort e).status = (carriedCode e).getD s.status := by
  cases e <;> rfl

@[simp] theorem State.abort_sess (e : ErrKind) (s : State) : (s.abort e).sess = .closed := by
  cases e <;> rfl

@[simp] theorem State.abort_phase (e : ErrKind) (s : State) : (s.abort e).phase = .idle := by
  cases e <;> rfl

@[simp] theorem State.abort_crc (e : ErrKind) (s : State) : (s.abort e).crc = s.crc := by cases e <;> rfl
@[simp] theorem State.abort_crcWritten (e : ErrKind) (s : State) : (s.abort e).crcWritten = s.crcWritten := by cases e <;> rfl
@[simp] theorem State.abort_tx (e : ErrKind) (s : State) : (s.abort e).tx = s.tx := by cases e <;> rfl
@[simp] theorem State.abort_txLen (e : ErrKind) (s : State) : (s.abort e).txLen = s.txLen := by cases e <;> rfl
@[simp] theorem State.abort_rx (e : ErrKind) (s : State) : (s.abort e).rx = s.rx := by cases e <;> rfl
@[simp] theorem State.abort_rxLen (e : ErrKind) (s : State) : (s.abort e).rxLen = s.rxLen := by cases e <;> rfl
@[simp] theorem State.abort_rfs (e : ErrKind) (s : State) : (s.abort e).rfs = s.rfs := by cases e <;> rfl
@[simp] theorem State.abort_step (e : ErrKind) (s : State) : (s.abort e).step = s.step := by cases e <;> rfl
@[simp] theorem State.abort_cfgAddr (e : ErrKind) (s : State) : (s.abort e).cfgAddr = s.cfgAddr := by cases e <;> rfl
@[simp] theorem State.abort_cfgDump (e : ErrKind) (s : State) : (s.abort e).cfgDump = s.cfgDump := by cases e <;> rfl
@[simp] theorem State.abort_res (e : ErrKind) (s : State) : (s.abort e).res = s.res := by cases e <;> rfl
@[simp] theorem State.abort_busy (e : ErrKind) (s : State) : (s.abort e).busy = s.busy := by cases e <;> rfl
@[simp] theorem State.abort_port (e : ErrKind) (s : State) : (s.abort e).port = s.port := by cases e <;> rfl
@[simp] theorem State.abort_chanIn (e : ErrKind) (s : State) : (s.abort e).chanIn = s.chanIn := by cases e <;> rfl
@[simp] theorem State.abort_reads (e : ErrKind) (s : State) : (s.abort e).reads = s.reads := by cases e <;> rfl
@[simp] theorem State.abort_freeReads (e : ErrKind) (s : State) : (s.abort e).freeReads = s.freeReads := by cases e <;> rfl
@[simp] theorem State.abort_chanLog (e : ErrKind) (s : State) : (s.abort e).chanLog = s.chanLog := by cases e <;> rfl
@[simp] theorem State.abort_trace (e : ErrKind) (s : State) : (s.abort e).trace = s.trace := by cases e <;> rfl
@[simp] theorem State.abort_rets (e : ErrKind) (s : State) : (s.abort e).rets = s.rets := by cases e <;> rfl
@[simp] theorem State.abort_hostFaults (e : ErrKind) (s : State) : (s.abort e).hostFaults = s.hostFaults := by cases e <;> rfl

/-- `abort` as one record update: everything it writes and nothing else (R170). -/
theorem State.abort_eq (e : ErrKind) (s : State) :
    s.abort e =
      { s with err := errCode e, status := (carriedCode e).getD s.status, sess := .closed, phase := .idle } := by
  cases e <;> rfl

end Sys2Proof.Machine
end

