-- ==== Sys2Proof/Laws/Ops.lean ====
section
/-! SUPPORT. What each shared operation does, said once: the buffers, the channel, an exchange, an operation issued. -/

namespace Sys2Proof.Machine

/-! ### The buffers -/

@[simp] theorem Memory.ofBytesFrom_keys (o : Nat) (bytes : List Byte) :
    (Memory.ofBytesFrom o bytes).map Prod.fst = List.range' o bytes.length := by
  induction bytes generalizing o with
  | nil => rfl
  | cons b bs ih => simp [Memory.ofBytesFrom, ih, List.range'_succ]

/-- A buffer filled from offset 0 holds a byte at exactly the offsets below the length. -/
@[simp] theorem Memory.ofBytes_keys (bytes : List Byte) :
    (Memory.ofBytes bytes).map Prod.fst = List.range bytes.length := by
  simp [Memory.ofBytes, List.range_eq_range']

theorem Memory.read_ofBytesFrom (o a : Nat) (bytes : List Byte) :
    (Memory.ofBytesFrom o bytes).read a = if o ≤ a then bytes[a - o]? else none := by
  induction bytes generalizing o with
  | nil => simp [Memory.ofBytesFrom, Memory.read]
  | cons b bs ih =>
    simp only [Memory.ofBytesFrom, Memory.read, ih]
    rcases Nat.lt_trichotomy o a with h | h | h
    · have h1 : a - o = (a - (o + 1)) + 1 := by omega
      simp [Nat.ne_of_lt h, Nat.le_of_lt h, Nat.succ_le_of_lt h, h1]
    · simp [h]
    · simp [Nat.ne_of_gt h, Nat.not_le_of_gt h, show ¬ o + 1 ≤ a by omega]

/-- Reading a filled buffer: byte `a` where there is one. -/
@[simp] theorem Memory.read_ofBytes (a : Nat) (bytes : List Byte) : (Memory.ofBytes bytes).read a = bytes[a]? := by
  simp [Memory.ofBytes, Memory.read_ofBytesFrom]

/-- Reading a filled buffer whole gives back what it was filled with. -/
@[simp] theorem Memory.bytes_ofBytes (bytes : List Byte) : (Memory.ofBytes bytes).bytes bytes.length = bytes := by
  have h : ∀ n, n ≤ bytes.length → (List.range n).filterMap (Memory.ofBytes bytes).read = bytes.take n := by
    intro n
    induction n with
    | zero => simp
    | succ n ih =>
      intro hn
      have hlt : n < bytes.length := by omega
      rw [List.range_succ, List.filterMap_append, ih (by omega), List.take_add_one]
      simp [List.getElem?_eq_getElem hlt]
  simpa [Memory.bytes] using h bytes.length (Nat.le_refl _)

theorem Memory.wf_ofBytesFrom (o : Nat) (bytes : List Byte) : (Memory.ofBytesFrom o bytes).wf = true := by
  induction bytes generalizing o with
  | nil => rfl
  | cons b bs ih =>
    cases bs with
    | nil => rfl
    | cons c cs => simpa [Memory.ofBytesFrom, Memory.wf] using ih (o + 1)

/-- Filling a buffer, the one way a buffer is written, gives the canonical form. -/
theorem Memory.wf_ofBytes (bytes : List Byte) : (Memory.ofBytes bytes).wf = true :=
  Memory.wf_ofBytesFrom 0 bytes

/-- A buffer whose offsets are `0 .. n-1` is in canonical form: the invariant's `txCells` and `rxCells` say more than
`Memory.wf`. -/
theorem Memory.wf_of_keys (m : Memory) (n : Nat) (h : m.map Prod.fst = List.range n) : m.wf = true := by
  have key : ∀ (m : Memory) (o n : Nat), m.map Prod.fst = List.range' o n → m.wf = true := by
    intro m
    induction m with
    | nil => intros; rfl
    | cons c rest ih =>
      intro o n h
      obtain ⟨k, b⟩ := c
      cases rest with
      | nil => rfl
      | cons c' rest' =>
        obtain ⟨k', b'⟩ := c'
        match n, h with
        | n + 2, h =>
          simp only [List.map_cons, List.range'_succ, List.cons.injEq] at h
          obtain ⟨rfl, rfl, hr⟩ := h
          have ht := ih (k + 1) (n + 1) (by simp [List.range'_succ, hr])
          simp [Memory.wf, ht]
  exact key m 0 n (by rw [h, List.range_eq_range'])

@[simp] theorem State.rxBytes_putRx (bytes : List Byte) (s : State) : (s.putRx bytes).rxBytes = bytes := by
  simp [State.rxBytes]

@[simp] theorem State.txBytes_putTx (bytes : List Byte) (s : State) : (s.putTx bytes).txBytes = bytes := by
  simp [State.txBytes]

/-- Returning writes neither buffer. -/
@[simp] theorem returned_txBytes (p : OpResult × State) : (returned p).txBytes = p.2.txBytes := rfl

@[simp] theorem returned_rxBytes (p : OpResult × State) : (returned p).rxBytes = p.2.rxBytes := rfl

/-! ### Frames and the channel -/

@[simp] theorem frameOf_length (body : List Byte) : (frameOf body).length = body.length + 2 := by
  simp [frameOf, crcBytes]

@[simp] theorem State.txBytes_build (payload : List Byte) (s : State) :
    (s.build payload).txBytes = frameOf (s.cfgAddr :: payload) := by
  simp [State.build]

/-- What a read returns is within `RX_MAX` (R36). -/
theorem State.chanReply_length (s : State) : s.chanReply.length ≤ Config.rxMax := by
  simp [State.chanReply]

theorem busRun_append (p : BusPhase) (a b : List ChanEvent) :
    busRun p (a ++ b) = (busRun p a).bind fun q => busRun q b := by
  induction a generalizing p with
  | nil => rfl
  | cons e es ih =>
    simp only [List.cons_append, busRun]
    cases busStep p e with
    | none => rfl
    | some q => exact ih q

/-! ### An exchange (R130) -/

/-- The first half of an exchange, as one record update. -/
theorem State.transact_eq (payload : List Byte) (t : Timeout) (s : State) :
    s.transact payload t =
      { s with
        crc := crc16 (s.cfgAddr :: payload)
        crcWritten := true
        tx := Memory.ofBytes (frameOf (s.cfgAddr :: payload))
        txLen := (frameOf (s.cfgAddr :: payload)).length
        rx := Memory.ofBytes s.chanReply
        rxLen := s.chanReply.length
        err := 0
        status := 0
        phase := .waiting
        chanIn := s.chanIn.tail
        reads := s.reads + 1
        chanLog := s.chanLog ++ [.write (frameOf (s.cfgAddr :: payload)), .settle, .read t s.chanReply]
        trace := if s.cfgDump then s.trace ++ [frameOf (s.cfgAddr :: payload), s.chanReply] else s.trace } := by
  have h : (Memory.ofBytes (frameOf (s.cfgAddr :: payload))).bytes (frameOf (s.cfgAddr :: payload)).length =
      frameOf (s.cfgAddr :: payload) := Memory.bytes_ofBytes _
  cases hd : s.cfgDump <;>
    simp [State.transact, State.clearErr, State.build, State.runCrc, State.setCrc, State.putTx, State.setPhase,
      State.chanWrite, State.settle, State.chanRead, State.putRx, State.dumped, State.txBytes, State.chanReply, hd,
      -frameOf_length, h]

/-- What `validate` says is what the rules say (R168). -/
theorem validate_fail_iff (v : Variant) (silence e : ErrKind) (b : List Byte) (hb : b.length ≠ 0) :
    validate v b = .fail e ↔ replyError v silence b = some e := by
  have hc : statusCode (b.getD 1 0) = (b.getD 1 0 &&& 0x0F).setWidth 4 := by
    simp only [statusCode]
    generalize b.getD 1 0 = x
    revert x; decide
  have hz : ((b.getD 1 0 &&& 0x0F).setWidth 4 : BitVec 4) = 0 ↔ b.getD 1 0 &&& 0x0F = 0 := by
    generalize b.getD 1 0 = x
    revert x; decide
  simp only [validate, replyError, sizeOk, crcOk, coveredBytes, trailer, byteAt, hc, hb, if_false, hz, ne_eq,
    beq_eq_false_iff_ne]
  split
  · simp_all
  · split
    · simp_all
    · split <;> simp_all

end Sys2Proof.Machine
end

