-- ==== Sys2Proof/Laws/Crc.lean ====
section
/-! SUPPORT. The algebra of the CRC (40_crc.md R85 to R92): the bit step is linear and injective, so two registers that differ stay
different, and a computation over a longer sequence goes on from the shorter one's register. -/

namespace Sys2Proof.Machine

/-- A computation goes on from where it stands. -/
theorem crc16_append (a b : List Byte) : crc16 (a ++ b) = b.foldl crcByte (crc16 a) := by
  simp [crc16, List.foldl_append]

theorem crcBit_xor (a b : U16) : crcBit (a ^^^ b) = crcBit a ^^^ crcBit b := by
  have comm (x y p : U16) : (x ^^^ y) ^^^ p = x ^^^ (y ^^^ p) := by rw [BitVec.xor_assoc]
  simp only [crcBit, BitVec.getLsbD_xor, BitVec.ushiftRight_xor_distrib]
  cases ha : a.getLsbD 0 <;> cases hb : b.getLsbD 0 <;> simp
  · rw [BitVec.xor_assoc]
  · rw [BitVec.xor_assoc, BitVec.xor_comm (b >>> 1), ← BitVec.xor_assoc]
  · rw [BitVec.xor_assoc, BitVec.xor_comm Config.crcPoly (b >>> 1 ^^^ Config.crcPoly), BitVec.xor_assoc]
    simp

theorem crcPoly_bit15 : Config.crcPoly[15] = true := by decide

/-- The bit step loses nothing but zero goes to zero: bit 15 of the result tells whether bit 0 was set. -/
theorem crcBit_eq_zero (c : U16) (h : crcBit c = 0) : c = 0 := by
  apply BitVec.eq_of_getLsbD_eq
  intro i hi
  have hbit (j : Nat) (hj : j < 16) : (crcBit c).getLsbD j = false := by rw [h]; simp
  have h0 : c.getLsbD 0 = false := by
    have h15 := hbit 15 (by omega)
    by_contra hne
    have h1 : c.getLsbD 0 = true := by simpa using hne
    have hp : Config.crcPoly[15] = true := crcPoly_bit15
    rw [crcBit, if_pos h1] at h15
    simp [hp] at h15
  simp only [crcBit, h0] at hbit
  cases i with
  | zero => simpa using h0
  | succ i => simpa [Nat.add_comm] using hbit i (by omega)

theorem crcBits_xor (n : Nat) (a b : U16) : crcBits n (a ^^^ b) = crcBits n a ^^^ crcBits n b := by
  induction n generalizing a b with
  | zero => rfl
  | succ n ih => simp only [crcBits, crcBit_xor, ih]

theorem crcBits_eq_zero (n : Nat) (c : U16) (h : crcBits n c = 0) : c = 0 := by
  induction n generalizing c with
  | zero => exact h
  | succ n ih => exact crcBit_eq_zero c (ih _ h)

theorem crcBits_injective (n : Nat) (a b : U16) (h : crcBits n a = crcBits n b) : a = b := by
  have : crcBits n (a ^^^ b) = 0 := by rw [crcBits_xor, h, BitVec.xor_self]; rfl
  exact BitVec.xor_eq_zero_iff.mp (crcBits_eq_zero n _ this)

/-- From different registers, the same bytes lead to different registers. -/
theorem crc_foldl_injective (bytes : List Byte) (a b : U16) (h : bytes.foldl crcByte a = bytes.foldl crcByte b) :
    a = b := by
  induction bytes generalizing a b with
  | nil => exact h
  | cons x xs ih =>
    have := crcBits_injective 8 _ _ (ih _ _ h)
    exact (BitVec.xor_left_inj (x.setWidth 16)).mp this

/-- From one register, different bytes lead to different registers. -/
theorem crcByte_injective (c : U16) (x y : Byte) (h : crcByte c x = crcByte c y) : x = y := by
  have h1 := crcBits_injective 8 _ _ h
  have h2 : x.setWidth 16 = y.setWidth 16 := (BitVec.xor_right_inj c).mp h1
  have h3 := congrArg (BitVec.setWidth 8) h2
  simpa using h3

/-! ### The CRC field: two bytes, low byte first (20_memory.md R39) -/

theorem lo8_le16 (lo hi : Byte) : lo8 (le16 lo hi) = lo := by
  apply BitVec.eq_of_getLsbD_eq
  intro i h
  simp [lo8, le16, h]
  omega

theorem hi8_le16 (lo hi : Byte) : hi8 (le16 lo hi) = hi := by
  apply BitVec.eq_of_getLsbD_eq
  intro i h
  simp [hi8, le16, h, show 8 + i < 16 by omega]

theorem le16_lo8_hi8 (c : U16) : le16 (lo8 c) (hi8 c) = c := by
  simp only [le16, lo8, hi8]
  apply BitVec.eq_of_getLsbD_eq
  intro i hi
  simp
  by_cases h : i < 8
  · simp only [h]
    cases c.getLsbD i <;> simp
    omega
  · simp only [h]
    rw [show 8 + (i - 8) = i by omega]
    cases c.getLsbD i <;> simp
    omega

/-- The CRC check on a body and two trailer bytes (R119). -/
theorem crcOk_append (body : List Byte) (lo hi : Byte) : crcOk (body ++ [lo, hi]) = (crc16 body == le16 lo hi) := by
  simp [crcOk, coveredBytes, trailer, byteAt]

/-- The two questions of `portCarries` are the one of R72. -/
@[simp] theorem portCarries_iff (n : Nat) : portCarries n = true ↔ n ≤ Config.portMax := by
  simp only [portCarries, Bool.or_eq_true, decide_eq_true_eq, or_iff_right_iff_imp]
  intro h
  exact h.trans (Nat.le_add_right _ _)

end Sys2Proof.Machine
end

