-- ==== Sys2Proof/Laws/Exchange.lean ====
section
/-! SUPPORT. The exchange (44_transport.md R130), said once: by its reply it fails with the kind of 60_exceptions.md R168 and
aborts, or passes; either way the state is `exchanged`. Callers cite these two lemmas and never unfold `exchange`. -/

namespace Sys2Proof.Machine

theorem State.transact_rxLen (payload : List Byte) (t : Timeout) (s : State) :
    (s.transact payload t).rxLen = s.chanReply.length := by
  simp [State.transact_eq]

theorem State.transact_rxBytes (payload : List Byte) (t : Timeout) (s : State) :
    (s.transact payload t).rxBytes = s.chanReply := by
  simp [State.transact_eq, State.rxBytes]

theorem validate_pass_of_replyError (v : Variant) (silence : ErrKind) (b : List Byte)
    (h : replyError v silence b = none) : validate v b = .pass (parse v b) := by
  have hb : b.length ≠ 0 := by
    intro hb
    simp [replyError, hb] at h
  cases hv : validate v b with
  | fail e =>
    have := (validate_fail_iff v silence e b hb).mp hv
    simp [h] at this
  | pass r =>
    simp only [validate] at hv
    split at hv
    · cases hv
    · split at hv
      · cases hv
      · split at hv
        · cases hv
        · cases hv; rfl

theorem sizeOk_iff (v : Variant) (b : List Byte) : sizeOk v b = true ↔ b.length = variantSize v := by
  simp [sizeOk]

/-- `CRC` after the second half of an exchange. -/
theorem State.examined_transact (payload : List Byte) (v : Variant) (t : Timeout) (s : State) :
    (s.transact payload t).examined v =
      { s.exchanged payload v t with
        phase := .validating
        status := (statusSeen v s.chanReply).getD 0 } := by
  have hr : ((s.transact payload t).setPhase .validating).rxBytes = s.chanReply := by
    simpa [State.rxBytes] using s.transact_rxBytes payload t
  have hc : (((s.transact payload t).setPhase .validating).crcChecked v).rxBytes = s.chanReply := by
    simp only [State.crcChecked, hr]
    split <;> simpa [State.rxBytes] using s.transact_rxBytes payload t
  simp only [State.examined, hc]
  simp only [State.crcChecked, hr, sizeOk_iff]
  by_cases hz : s.chanReply.length = variantSize v <;> cases statusSeen v s.chanReply <;>
    simp [State.transact_eq, State.setPhase, State.runCrc, State.setCrc, State.latchStatus, State.exchanged, crcLeft, hz,
      coveredBytes]

theorem statusSeen_of_fail (v : Variant) (silence e : ErrKind) (b : List Byte) (hb : b.length ≠ 0)
    (h : replyError v silence b = some e) : (carriedCode e).getD ((statusSeen v b).getD 0) = statusLeft e := by
  have hc : statusCode (b.getD 1 0) = (b.getD 1 0 &&& 0x0F).setWidth 4 := by
    simp only [statusCode]
    generalize b.getD 1 0 = x
    revert x; decide
  simp only [replyError, hb, if_false] at h
  split at h
  · rename_i hs
    cases h
    simp [statusSeen, sizeOk, hs, carriedCode, statusLeft]
  · rename_i hs
    split at h
    · rename_i hcrc
      cases h
      have : crcOk b = false := by simpa [crcOk, coveredBytes, trailer, byteAt] using hcrc
      simp [statusSeen, this, carriedCode, statusLeft]
    · split at h
      · cases h
        simp [carriedCode, statusLeft]
      · cases h

theorem statusSeen_of_pass (v : Variant) (silence : ErrKind) (b : List Byte)
    (h : replyError v silence b = none) : (statusSeen v b).getD 0 = 0 := by
  have hc : statusCode (b.getD 1 0) = (b.getD 1 0 &&& 0x0F).setWidth 4 := by
    simp only [statusCode]
    generalize b.getD 1 0 = x
    revert x; decide
  simp only [replyError] at h
  split at h
  · cases h
  · split at h
    · cases h
    · split at h
      · cases h
      · split at h
        · cases h
        · rename_i hn
          simp only [statusSeen]
          split
          · rename_i hv
            have : b.getD 1 0 &&& 0x0F = 0 := by
              by_contra hne
              exact hn ⟨hv.1, hne⟩
            simp only [Option.getD_some, byteAt, hc, this]
            rfl
          · rfl

/-- An exchange whose reply the rules reject: the error's kind, and the abort. -/
theorem exchange_fail (payload : List Byte) (v : Variant) (t : Timeout) (silence e : ErrKind) (s : State)
    (hsil : carriedCode silence = none) (h : replyError v silence s.chanReply = some e) :
    exchange payload v t silence s =
      (.fail e, { s.exchanged payload v t with err := errCode e, status := statusLeft e, sess := .closed }) := by
  by_cases hb : s.chanReply.length = 0
  · have he : e = silence := by simpa [replyError, hb, eq_comm] using h
    subst he
    have hs : variantSize v ≠ 0 := by cases v <;> decide
    simp only [exchange, State.transact_rxLen, hb, if_true]
    rw [State.abort_eq]
    simp [State.transact_eq, State.exchanged, crcLeft, hb, hs.symm, hsil, statusLeft]
  · have hv := (validate_fail_iff v silence e s.chanReply hb).mpr h
    simp only [exchange, State.transact_rxLen, hb, if_false, State.transact_rxBytes, hv]
    rw [State.examined_transact, State.abort_eq]
    simpa [State.exchanged] using statusSeen_of_fail v silence e s.chanReply hb h

/-- An exchange whose reply the rules accept. -/
theorem exchange_pass (payload : List Byte) (v : Variant) (t : Timeout) (silence : ErrKind) (s : State)
    (h : replyError v silence s.chanReply = none) :
    exchange payload v t silence s = (.pass (parse v s.chanReply), s.exchanged payload v t) := by
  have hb : s.chanReply.length ≠ 0 := by
    intro hb
    simp [replyError, hb] at h
  have hv := validate_pass_of_replyError v silence s.chanReply h
  simp only [exchange, State.transact_rxLen, hb, if_false, State.transact_rxBytes, hv]
  rw [State.examined_transact]
  simpa [State.exchanged, State.setPhase] using statusSeen_of_pass v silence s.chanReply h

/-- Everything an exchange can come to. -/
theorem exchange_cases (payload : List Byte) (v : Variant) (t : Timeout) (silence : ErrKind) (s : State)
    (hsil : carriedCode silence = none) :
    (∃ e, replyError v silence s.chanReply = some e ∧
      exchange payload v t silence s =
        (.fail e, { s.exchanged payload v t with err := errCode e, status := statusLeft e, sess := .closed })) ∨
    (replyError v silence s.chanReply = none ∧
      exchange payload v t silence s = (.pass (parse v s.chanReply), s.exchanged payload v t)) := by
  cases h : replyError v silence s.chanReply with
  | some e => exact .inl ⟨e, rfl, exchange_fail payload v t silence e s hsil h⟩
  | none => exact .inr ⟨rfl, exchange_pass payload v t silence s h⟩

/-- An operation issued while none is in progress runs to its return. -/
theorem issue_idle (op : Op) (s : State) (h : s.busy = false) :
    issue op s = .next (returned (op (s.setBusy true))) := by
  simp [issue, h]

/-- Anything issued while an operation is in progress is refused (R28). -/
theorem issue_busy (op : Op) (s : State) (h : s.busy = true) : issue op s = .next s.refuseBusy := by
  simp [issue, h]

end Sys2Proof.Machine
end

