-- ==== Sys2Proof/Laws/Transport.lean ====
section
/-! SUPPORT. What each transport operation can come to (44_transport.md R132 to R135), said once: by its reply it ends `Ok`, or
it fails with one error kind and aborts, or it is refused. Proofs about the transport operations and `COLLECT` cite these
lemmas and never unfold an operation. -/

namespace Sys2Proof.Machine

/-- What an exchange that fails leaves: `exchanged`, with the error latched and the session closed (R170). -/
def State.exchangeFailed (payload : List Byte) (v : Variant) (t : Timeout) (e : ErrKind) (s : State) : State :=
  { s.exchanged payload v t with err := errCode e, status := statusLeft e, sess := .closed }

theorem concluded_exchange_fail (deliver : Response → State → State) (after : Session) (payload : List Byte) (v : Variant)
    (t : Timeout) (silence e : ErrKind) (s : State) (hsil : carriedCode silence = none)
    (h : replyError v silence s.chanReply = some e) :
    concluded deliver after (exchange payload v t silence s) = (.err e, s.exchangeFailed payload v t e) := by
  rw [exchange_fail payload v t silence e s hsil h]
  rfl

theorem concluded_exchange_pass (deliver : Response → State → State) (after : Session) (payload : List Byte) (v : Variant)
    (t : Timeout) (silence : ErrKind) (s : State) (h : replyError v silence s.chanReply = none) :
    concluded deliver after (exchange payload v t silence s) =
      (.ok .done, (deliver (parse v s.chanReply) (s.exchanged payload v t)).setSess after) := by
  rw [exchange_pass payload v t silence s h]
  rfl

/-- Everything `VERIFY` can come to (R132). -/
theorem verifyOp_cases (s : State) :
    (∃ e, replyError .status .channelTimeout s.chanReply = some e ∧
      verifyOp s = (.err e, s.exchangeFailed testPayload .status .ch e)) ∨
    (replyError .status .channelTimeout s.chanReply = none ∧
      verifyOp s = (.ok .done, (s.exchanged testPayload .status .ch).setSess .channelVerified)) := by
  cases h : replyError .status .channelTimeout s.chanReply with
  | some e => exact .inl ⟨e, rfl, concluded_exchange_fail _ _ _ _ _ _ e s rfl h⟩
  | none => exact .inr ⟨rfl, concluded_exchange_pass deliverNothing _ _ _ _ _ s h⟩

/-- Everything `INIT` can come to (R133). -/
theorem initOp_cases (s : State) :
    (s.sess ≠ .channelVerified ∧ initOp s = refuse .badSequence s) ∨
    (s.sess = .channelVerified ∧ ∃ e, replyError .status .midSessionTimeout s.chanReply = some e ∧
      initOp s = (.err e, s.exchangeFailed initPayload .status .reply e)) ∨
    (s.sess = .channelVerified ∧ replyError .status .midSessionTimeout s.chanReply = none ∧
      initOp s = (.ok .done, (s.exchanged initPayload .status .reply).setSess .initialized)) := by
  by_cases hs : s.sess = .channelVerified
  · simp only [initOp, hs, if_true]
    cases h : replyError .status .midSessionTimeout s.chanReply with
    | some e => exact .inr (.inl ⟨trivial, e, rfl, concluded_exchange_fail _ _ _ _ _ _ e s rfl h⟩)
    | none => exact .inr (.inr ⟨trivial, rfl, concluded_exchange_pass deliverNothing _ _ _ _ _ s h⟩)
  · exact .inl ⟨hs, by simp [initOp, hs]⟩

/-- Everything `READ m` can come to (R134). -/
theorem readOp_cases (m : Meas) (s : State) :
    (¬(s.sess = .initialized ∨ s.sess = .reading) ∧ readOp m s = refuse .badSequence s) ∨
    ((s.sess = .initialized ∨ s.sess = .reading) ∧
      ∃ e, replyError (measVariant m) .midSessionTimeout s.chanReply = some e ∧
        readOp m s = (.err e, s.exchangeFailed (measPayload m) (measVariant m) .reply e)) ∨
    ((s.sess = .initialized ∨ s.sess = .reading) ∧
      replyError (measVariant m) .midSessionTimeout s.chanReply = none ∧
      readOp m s = (.ok .done, (deliver m (parse (measVariant m) s.chanReply)
        (s.exchanged (measPayload m) (measVariant m) .reply)).setSess .reading)) := by
  by_cases hs : s.sess = .initialized ∨ s.sess = .reading
  · simp only [readOp, hs, if_true]
    cases h : replyError (measVariant m) .midSessionTimeout s.chanReply with
    | some e => exact .inr (.inl ⟨trivial, e, rfl, concluded_exchange_fail _ _ _ _ _ _ e s rfl h⟩)
    | none => exact .inr (.inr ⟨trivial, rfl, concluded_exchange_pass _ _ _ _ _ _ s h⟩)
  · exact .inl ⟨hs, by simp [readOp, hs]⟩

/-- Everything `CLOSE` can come to (R135). -/
theorem closeOp_cases (s : State) :
    (∃ e, replyError .status .midSessionTimeout s.chanReply = some e ∧
      closeOp s = (.err e, s.exchangeFailed closePayload .status .reply e)) ∨
    (replyError .status .midSessionTimeout s.chanReply = none ∧
      closeOp s = (.ok .done, (s.exchanged closePayload .status .reply).setSess .closed)) := by
  cases h : replyError .status .midSessionTimeout s.chanReply with
  | some e => exact .inl ⟨e, rfl, concluded_exchange_fail _ _ _ _ _ _ e (s.setSess .closed) rfl h⟩
  | none => exact .inr ⟨rfl, concluded_exchange_pass deliverNothing _ _ _ _ _ (s.setSess .closed) h⟩

/-- The errors a reply can raise: the timeout kind only on silence, `ProtocolError` only for a status reply and never with
code 0 (R161, R164, R168). -/
theorem replyError_kinds (v : Variant) (silence e : ErrKind) (b : List Byte) (h : replyError v silence b = some e) :
    (b = [] ∧ e = silence) ∨ e = .wrongResultSize ∨ e = .wrongCrc ∨
      (v = .status ∧ ∃ code, code ≠ 0 ∧ e = .protocolError code) := by
  have hz : ∀ x : Byte, x &&& 0x0F ≠ 0 → ((x &&& 0x0F).setWidth 4 : BitVec 4) ≠ 0 := by decide
  simp only [replyError] at h
  split at h
  · rename_i hb
    exact .inl ⟨List.length_eq_zero_iff.mp hb, (Option.some.inj h).symm⟩
  · split at h
    · exact .inr (.inl (Option.some.inj h).symm)
    · split at h
      · exact .inr (.inr (.inl (Option.some.inj h).symm))
      · split at h
        · rename_i hp
          exact .inr (.inr (.inr ⟨hp.1, _, hz _ hp.2, (Option.some.inj h).symm⟩))
        · cases h

/-- The number of fields of a reply is the width of its destination group (R68). -/
theorem responseRaws_length (m : Meas) (b : List Byte) :
    (responseRaws (parse (measVariant m) b)).length = measCount m := by
  cases m <;> rfl

/-- Register `r` after a group is written (R26). -/
theorem groupWritten_getElem (d : Nat) (raws : List U32) (res : Vector U32 34) (r : Fin 34) :
    (groupWritten d raws res)[r] =
      if d ≤ r.val ∧ r.val < d + raws.length then raws.getD (r.val - d) res[r] else res[r] := by
  simp [groupWritten]

/-- The integer of a triple as a sum: its three bytes do not overlap (R93). -/
theorem tripleRaw_toNat (t : Triple) :
    (tripleRaw t).toNat = t.b0.toNat * 65536 + t.b2.toNat * 256 + t.b1.toNat := by
  have h0 := t.b0.isLt
  have h1 := t.b1.isLt
  have h2 := t.b2.isLt
  have e1 : t.b2.toNat <<< 8 ||| t.b1.toNat = t.b2.toNat <<< 8 + t.b1.toNat :=
    (Nat.shiftLeft_add_eq_or_of_lt (by omega) _).symm
  have e2 : t.b0.toNat <<< 16 ||| (t.b2.toNat <<< 8 + t.b1.toNat) = t.b0.toNat <<< 16 + (t.b2.toNat <<< 8 + t.b1.toNat) :=
    (Nat.shiftLeft_add_eq_or_of_lt (by rw [Nat.shiftLeft_eq]; omega) _).symm
  have m0 : t.b0.toNat <<< 16 % 2 ^ 24 = t.b0.toNat <<< 16 := Nat.mod_eq_of_lt (by rw [Nat.shiftLeft_eq]; omega)
  have m2 : t.b2.toNat <<< 8 % 2 ^ 24 = t.b2.toNat <<< 8 := Nat.mod_eq_of_lt (by rw [Nat.shiftLeft_eq]; omega)
  have w (x : Byte) : (x.setWidth 24).toNat = x.toNat := by
    rw [BitVec.toNat_setWidth, Nat.mod_eq_of_lt (by have := x.isLt; omega)]
  rw [tripleRaw, BitVec.toNat_or, BitVec.toNat_or, BitVec.toNat_shiftLeft, BitVec.toNat_shiftLeft, w, w, w, m0, m2,
    Nat.or_assoc, e1, e2, Nat.shiftLeft_eq, Nat.shiftLeft_eq]
  omega

/-- The integer of a quad as a sum: its four bytes do not overlap (R94). -/
theorem quadRaw_toNat (q : Quad) :
    (quadRaw q).toNat = q.b1.toNat * 16777216 + q.b0.toNat * 65536 + q.b3.toNat * 256 + q.b2.toNat := by
  have h0 := q.b0.isLt
  have h1 := q.b1.isLt
  have h2 := q.b2.isLt
  have h3 := q.b3.isLt
  have e1 : q.b3.toNat <<< 8 ||| q.b2.toNat = q.b3.toNat <<< 8 + q.b2.toNat :=
    (Nat.shiftLeft_add_eq_or_of_lt (by omega) _).symm
  have e2 : q.b0.toNat <<< 16 ||| (q.b3.toNat <<< 8 + q.b2.toNat) = q.b0.toNat <<< 16 + (q.b3.toNat <<< 8 + q.b2.toNat) :=
    (Nat.shiftLeft_add_eq_or_of_lt (by rw [Nat.shiftLeft_eq]; omega) _).symm
  have e3 : q.b1.toNat <<< 24 ||| (q.b0.toNat <<< 16 + (q.b3.toNat <<< 8 + q.b2.toNat)) =
      q.b1.toNat <<< 24 + (q.b0.toNat <<< 16 + (q.b3.toNat <<< 8 + q.b2.toNat)) :=
    (Nat.shiftLeft_add_eq_or_of_lt (by rw [Nat.shiftLeft_eq, Nat.shiftLeft_eq]; omega) _).symm
  have m1 : q.b1.toNat <<< 24 % 2 ^ 32 = q.b1.toNat <<< 24 := Nat.mod_eq_of_lt (by rw [Nat.shiftLeft_eq]; omega)
  have m0 : q.b0.toNat <<< 16 % 2 ^ 32 = q.b0.toNat <<< 16 := Nat.mod_eq_of_lt (by rw [Nat.shiftLeft_eq]; omega)
  have m3 : q.b3.toNat <<< 8 % 2 ^ 32 = q.b3.toNat <<< 8 := Nat.mod_eq_of_lt (by rw [Nat.shiftLeft_eq]; omega)
  have w (x : Byte) : (x.setWidth 32).toNat = x.toNat := by
    rw [BitVec.toNat_setWidth, Nat.mod_eq_of_lt (by have := x.isLt; omega)]
  rw [quadRaw, BitVec.toNat_or, BitVec.toNat_or, BitVec.toNat_or, BitVec.toNat_shiftLeft, BitVec.toNat_shiftLeft,
    BitVec.toNat_shiftLeft, w, w, w, w, m0, m1, m3, Nat.or_assoc, Nat.or_assoc, e1, e2, e3, Nat.shiftLeft_eq,
    Nat.shiftLeft_eq, Nat.shiftLeft_eq]
  omega

/-- A result register fed by `decode3` holds a 24-bit value (R25). -/
theorem tripleRaw_setWidth_lt (t : Triple) : ((tripleRaw t).setWidth 32 : U32).toNat < 2 ^ 24 := by
  have := (tripleRaw t).isLt
  rw [BitVec.toNat_setWidth, Nat.mod_eq_of_lt (by omega)]
  exact this

end Sys2Proof.Machine
end

