-- ==== Sys2Proof/Laws/Instr.lean ====
section
/-! SUPPORT. From `exec` to the operations: which operation an instruction of a family runs, and what an operation's end
leaves once it has returned. -/

namespace Sys2Proof.Machine

@[simp] theorem State.chanReply_setBusy (b : Bool) (s : State) : (s.setBusy b).chanReply = s.chanReply := rfl

@[simp] theorem State.chanReply_setStep (k : Nat) (s : State) : (s.setStep k).chanReply = s.chanReply := rfl

/-- An exchange that failed, returned. -/
theorem returned_exchangeFailed (payload : List Byte) (v : Variant) (t : Timeout) (e : ErrKind) (s : State)
    (h : s.busy = false) :
    returned (.err e, (s.setBusy true).exchangeFailed payload v t e) = (s.exchanged payload v t).failedWith e := by
  cases s
  cases h
  rfl

/-- An exchange that passed, returned, where nothing is delivered. -/
theorem returned_exchanged (payload : List Byte) (v : Variant) (t : Timeout) (x : Session) (s : State)
    (h : s.busy = false) :
    returned (.ok .done, ((s.setBusy true).exchanged payload v t).setSess x) =
      { s.exchanged payload v t with sess := x, rets := s.rets ++ [.ok .done] } := by
  cases s
  cases h
  rfl

/-- A refusal, returned. -/
theorem returned_refuse (reason : RefuseReason) (s : State) (h : s.busy = false) :
    returned (refuse reason (s.setBusy true)) = s.refusedWith reason := by
  cases s
  cases h
  rfl

/-- A refusal for `Busy` in the words of the statements. -/
theorem State.refuseBusy_eq (s : State) : s.refuseBusy = s.refusedWith .busy := rfl

/-- The outcome a return gives back is the last one. -/
@[simp] theorem returned_lastRet (p : OpResult × State) : (returned p).lastRet = some p.1 := by
  simp [returned, State.lastRet, State.giveBack]

/-- The operation an instruction issues. -/
def instrOp : Instr → Op
  | .crc16 bytes => crc16Op bytes
  | .decode3 b0 b1 b2 scale => decodeOp (tripleRaw ⟨b0, b1, b2⟩).toNat scale
  | .decode4 b0 b1 b2 b3 scale => decodeOp (quadRaw ⟨b0, b1, b2, b3⟩).toNat scale
  | .buildTest => buildOp testPayload
  | .buildInit => buildOp initPayload
  | .buildClose => buildOp closePayload
  | .buildRead cmd paramId subIndex => buildOp [cmd, paramId, subIndex]
  | .validate v buffer => validateCodeOp v buffer
  | .verify => verifyOp
  | .init => initOp
  | .read m => readCodeOp m
  | .readU => readOp .u
  | .readI => readOp .i
  | .readCosf => readOp .cosf
  | .readFreq => readOp .freq
  | .readAngle => readOp .angle
  | .readP => readOp .p
  | .readQ => readOp .q
  | .readEReset => readOp .eReset
  | .readEYday => readOp .eYday
  | .readEToday => readOp .eToday
  | .close => closeOp
  | .collect => collectOp
  | .reservedD => refuse .reservedOp
  | .reservedE => refuse .reservedOp
  | .reservedF => refuse .reservedOp
  | .frameTest => buildOp testPayload
  | .frameInit => buildOp initPayload
  | .frameClose => buildOp closePayload
  | .frameRead cmd paramId subIndex => buildOp [cmd, paramId, subIndex]
  | .frameReadU => buildOp (measPayload .u)
  | .frameReadI => buildOp (measPayload .i)
  | .frameReadCosf => buildOp (measPayload .cosf)
  | .frameReadFreq => buildOp (measPayload .freq)
  | .frameReadAngle => buildOp (measPayload .angle)
  | .frameReadP => buildOp (measPayload .p)
  | .frameReadQ => buildOp (measPayload .q)
  | .frameReadEReset => buildOp (measPayload .eReset)
  | .frameReadEYday => buildOp (measPayload .eYday)
  | .frameReadEToday => buildOp (measPayload .eToday)
  | .vStatus addr status crc => validateOp .status (statusReply addr status crc)
  | .vTriple addr value crc => validateOp .triple (triplesReply addr [value] crc)
  | .vTriple3 addr p1 p2 p3 crc => validateOp .triple3 (triplesReply addr [p1, p2, p3] crc)
  | .vSumTriple3 addr sum p1 p2 p3 crc => validateOp .sumTriple3 (triplesReply addr [sum, p1, p2, p3] crc)
  | .vSumQuad3 addr sum p1 p2 p3 crc => validateOp .sumQuad3 (quadsReply addr [sum, p1, p2, p3] crc)

/-- Every instruction is its operation, issued (R28). -/
theorem exec_eq_issue (i : Instr) (s : State) : exec i s = issue (instrOp i) s := by
  cases i <;> rfl

/-- An instruction issued while none is in progress completes with its operation's outcome. -/
theorem exec_idle (i : Instr) (s : State) (h : s.busy = false) :
    exec i s = .next (returned (instrOp i (s.setBusy true))) := by
  rw [exec_eq_issue, issue_idle _ s h]

/-- An instruction issued while one is in progress is refused. -/
theorem exec_busy (i : Instr) (s : State) (h : s.busy = true) : exec i s = .next (s.refusedWith .busy) := by
  rw [exec_eq_issue, issue_busy _ s h, State.refuseBusy_eq]

/-- A builder, or an outgoing frame's word, builds its payload (R103 to R114). -/
theorem exec_of_builderPayload (i : Instr) (payload : List Byte) (s : State) (h : builderPayload i = some payload) :
    exec i s = issue (buildOp payload) s := by
  cases i <;> first | (cases h; done) | (cases h; rfl)

/-- The read instruction of a measurement. -/
def readInstrOf : Meas → Instr
  | .u => .readU
  | .i => .readI
  | .cosf => .readCosf
  | .freq => .readFreq
  | .angle => .readAngle
  | .p => .readP
  | .q => .readQ
  | .eReset => .readEReset
  | .eYday => .readEYday
  | .eToday => .readEToday

/-- The table of read instructions is that function's graph. -/
theorem mem_readInstrs {i : Instr} {m : Meas} : (i, m) ∈ readInstrs ↔ i = readInstrOf m := by
  cases m <;> simp [readInstrs, readInstrOf]

/-- What holds of the read instruction of every measurement holds of every row of the table. -/
theorem of_mem_readInstrs {P : Instr → Meas → Prop} (h : ∀ m, P (readInstrOf m) m) {i : Instr} {m : Meas}
    (hm : (i, m) ∈ readInstrs) : P i m := by
  rw [mem_readInstrs.mp hm]
  exact h m

/-- `READ m` in either spelling runs the one read operation (R76, R142). -/
theorem exec_of_isRead (i : Instr) (m : Meas) (s : State) (h : isRead i m) : exec i s = issue (readOp m) s := by
  obtain h | rfl := h
  · exact of_mem_readInstrs (P := fun i m => exec i s = issue (readOp m) s) (fun m => by cases m <;> rfl) h
  · cases m <;> rfl

/-- The outcome of `validate` is the first failure by the rules, or the response (R117, R168). -/
theorem checkedResult_validate (v : Variant) (b : List Byte) :
    checkedResult (validate v b) =
      match replyError v .wrongResultSize b with
      | some e => .err e
      | none => .ok (.response (parse v b)) := by
  by_cases hb : b.length = 0
  · have hs : variantSize v ≠ 0 := by cases v <;> decide
    simp [validate, replyError, hb, sizeOk, hs.symm, checkedResult]
  · cases h : replyError v .wrongResultSize b with
    | some e => rw [(validate_fail_iff v _ e b hb).mpr h]; rfl
    | none => rw [validate_pass_of_replyError v _ b h]; rfl

/-- `VALIDATE` on a variant, issued (R117). -/
theorem issue_validateOp (v : Variant) (b : List Byte) (s : State) (h : s.busy = false) :
    issue (validateOp v b) s =
      .next { s with
        rx := Memory.ofBytes b
        rxLen := b.length
        crc := if b.length = variantSize v then crc16 (b.take (b.length - 2)) else s.crc
        crcWritten := if b.length = variantSize v then true else s.crcWritten
        rets := s.rets ++ [checkedResult (validate v b)] } := by
  rw [issue_idle _ s h]
  simp only [validateOp, State.rxBytes_putRx, State.crcChecked, sizeOk_iff]
  by_cases hs : b.length = variantSize v <;>
    simp [hs, returned, State.giveBack, State.setBusy, State.putRx, State.runCrc, State.setCrc, h, coveredBytes]

/-- The values delivered for a measurement are the integers of the reply's fields (R40, R41, R126). -/
theorem responseRaws_getD (m : Meas) (b : List Byte) (j : Nat) (hj : j < measCount m) (d : U32) :
    ((responseRaws (parse (measVariant m) b)).getD j d).toNat = fieldRaw m b j := by
  have ht (t : Triple) : ((tripleRaw t).setWidth 32 : U32).toNat = (tripleRaw t).toNat := by
    have := (tripleRaw t).isLt
    rw [BitVec.toNat_setWidth, Nat.mod_eq_of_lt (by omega)]
  cases m <;> simp only [measCount] at hj <;> interval_cases j <;>
    simp [measVariant, parse, responseRaws, fieldRaw, measDecoder, ht, tripleRaw_toNat, quadRaw_toNat, tripleAt, quadAt,
      byteAt]

end Sys2Proof.Machine
end

