-- ==== Sys2Proof/Laws/Collect.lean ====
section
/-! SUPPORT. Everything `COLLECT` can come to (45_orchestrator.md R147), said once. Proofs about `COLLECT` cite
`collectOp_cases` and never unfold the sequence. -/

namespace Sys2Proof.Machine

/-- What a read that passes inside `COLLECT` leaves: its `STEP`, the exchange, its group of `RES`, `Reading`. -/
def State.readPassed (m : Meas) (s : State) : State :=
  (deliver m (parse (measVariant m) s.chanReply)
    ((s.setStep (2 + measNumber m)).exchanged (measPayload m) (measVariant m) .reply)).setSess .reading

/-- What a run of reads that all pass leaves. -/
def State.readsPassed : List Meas → State → State
  | [], s => s
  | m :: ms, s => State.readsPassed ms (s.readPassed m)

/-- `COLLECT` after a `VERIFY` that passed. -/
def State.verifyPassed (s : State) : State :=
  ((s.collectStart.setStep 1).exchanged testPayload .status .ch).setSess .channelVerified

/-- `COLLECT` after an `INIT` that passed. -/
def State.initPassed (s : State) : State :=
  ((s.setStep 2).exchanged initPayload .status .reply).setSess .initialized

/-- `COLLECT` before the read that follows the reads `pre`. -/
def State.collectAt (pre : List Meas) (s : State) : State := s.verifyPassed.initPassed.readsPassed pre

/-- `READ m` admitted: it passes or aborts. -/
theorem readOp_admitted (m : Meas) (s : State) (hs : s.sess = .initialized ∨ s.sess = .reading) :
    (∃ e, replyError (measVariant m) .midSessionTimeout s.chanReply = some e ∧
      readOp m (s.setStep (2 + measNumber m)) =
        (.err e, (s.setStep (2 + measNumber m)).exchangeFailed (measPayload m) (measVariant m) .reply e)) ∨
    (replyError (measVariant m) .midSessionTimeout s.chanReply = none ∧
      readOp m (s.setStep (2 + measNumber m)) = (.ok .done, s.readPassed m)) := by
  rcases readOp_cases m (s.setStep (2 + measNumber m)) with ⟨h, -⟩ | ⟨-, e, h1, h2⟩ | ⟨-, h1, h2⟩
  · exact absurd hs h
  · exact .inl ⟨e, h1, h2⟩
  · exact .inr ⟨h1, h2⟩

/-- The reads of `COLLECT`: the first whose reply fails ends the sequence with its error, or all pass and the close
follows. -/
theorem collectReads_cases (ms : List Meas) (s : State) (hs : s.sess = .initialized ∨ s.sess = .reading) :
    (∃ pre m post e, ms = pre ++ m :: post ∧
      (∀ pre' m' post', pre = pre' ++ m' :: post' →
        replyError (measVariant m') .midSessionTimeout (s.readsPassed pre').chanReply = none) ∧
      replyError (measVariant m) .midSessionTimeout (s.readsPassed pre).chanReply = some e ∧
      collectReads ms s = (.err e, ((s.readsPassed pre).setStep (2 + measNumber m)).exchangeFailed (measPayload m)
        (measVariant m) .reply e)) ∨
    ((∀ pre m post, ms = pre ++ m :: post →
        replyError (measVariant m) .midSessionTimeout (s.readsPassed pre).chanReply = none) ∧
      collectReads ms s = collectClose (s.readsPassed ms)) := by
  induction ms generalizing s with
  | nil => exact .inr ⟨by intro pre m post h; simp at h, rfl⟩
  | cons m ms ih =>
    rcases readOp_admitted m s hs with ⟨e, h1, h2⟩ | ⟨h1, h2⟩
    · refine .inl ⟨[], m, ms, e, rfl, by intro pre m post h; simp at h, h1, ?_⟩
      simp only [collectReads, h2]
      rfl
    · have hrun : collectReads (m :: ms) s = collectReads ms (s.readPassed m) := by simp only [collectReads, h2]
      have later (p m' q) (hp : m :: ms = p ++ m' :: q)
          (h : ∀ p' q', ms = p' ++ m' :: q' → m :: p' = p →
            replyError (measVariant m') .midSessionTimeout (s.readsPassed p).chanReply = none) :
          replyError (measVariant m') .midSessionTimeout (s.readsPassed p).chanReply = none := by
        cases p with
        | nil =>
          simp only [List.nil_append, List.cons.injEq] at hp
          rw [← hp.1]
          exact h1
        | cons x xs =>
          simp only [List.cons_append, List.cons.injEq] at hp
          exact h xs q hp.2 (by rw [hp.1])
      rcases ih (s.readPassed m) (.inr rfl) with ⟨pre, m', post, e, hms, hpre, he, hr⟩ | ⟨hall, hr⟩
      · refine .inl ⟨m :: pre, m', post, e, by rw [hms]; rfl, ?_, he, by rw [hrun, hr]; rfl⟩
        intro p n q hp
        cases p with
        | nil =>
          simp only [List.nil_append, List.cons.injEq] at hp
          rw [← hp.1]
          exact h1
        | cons x xs =>
          simp only [List.cons_append, List.cons.injEq] at hp
          rw [← hp.1]
          exact hpre xs n q hp.2
      · refine .inr ⟨?_, by rw [hrun, hr]; rfl⟩
        intro p n q hp
        refine later p n q hp fun p' q' hms hp' => ?_
        rw [← hp']
        exact hall p' n q' hms

/-- The end of `COLLECT`. -/
theorem collectClose_cases (s : State) :
    (∃ e, replyError .status .midSessionTimeout s.chanReply = some e ∧
      collectClose s = (.err e, (s.setStep 13).exchangeFailed closePayload .status .reply e)) ∨
    (replyError .status .midSessionTimeout s.chanReply = none ∧
      collectClose s =
        (.ok .complete, (((s.setStep 13).exchanged closePayload .status .reply).setSess .closed).setStep 14)) := by
  rcases closeOp_cases (s.setStep 13) with ⟨e, h1, h2⟩ | ⟨h1, h2⟩
  · exact .inl ⟨e, h1, by simp only [collectClose, h2]⟩
  · exact .inr ⟨h1, by simp only [collectClose, h2]⟩

/-- What `COLLECT` can come to: one constructor for each way it can end. -/
inductive Collected (s : State) : OpResult × State → Prop
  /-- silence at `VERIFY` (R150) -/
  | degraded (h : s.chanReply = []) :
    Collected s (.ok .allZero,
      ((s.collectStart.setStep 1).exchangeFailed testPayload .status .ch .channelTimeout).setStep 14)
  /-- any other failure at `VERIFY` (R151) -/
  | atVerify (e : ErrKind) (h : replyError .status .channelTimeout s.chanReply = some e) (he : e ≠ .channelTimeout) :
    Collected s (.err e, (s.collectStart.setStep 1).exchangeFailed testPayload .status .ch e)
  /-- a failure at `INIT` (R151) -/
  | atInit (e : ErrKind) (hv : replyError .status .channelTimeout s.chanReply = none)
      (h : replyError .status .midSessionTimeout s.verifyPassed.chanReply = some e) :
    Collected s (.err e, (s.verifyPassed.setStep 2).exchangeFailed initPayload .status .reply e)
  /-- a failure at a read (R153) -/
  | atRead (pre : List Meas) (m : Meas) (post : List Meas) (e : ErrKind) (hm : allMeas = pre ++ m :: post)
      (hv : replyError .status .channelTimeout s.chanReply = none)
      (hi : replyError .status .midSessionTimeout s.verifyPassed.chanReply = none)
      (hp : ∀ pre' m' post', pre = pre' ++ m' :: post' →
        replyError (measVariant m') .midSessionTimeout (s.collectAt pre').chanReply = none)
      (h : replyError (measVariant m) .midSessionTimeout (s.collectAt pre).chanReply = some e) :
    Collected s (.err e,
      ((s.collectAt pre).setStep (2 + measNumber m)).exchangeFailed (measPayload m) (measVariant m) .reply e)
  /-- a failure at `CLOSE` (R154) -/
  | atClose (e : ErrKind) (hv : replyError .status .channelTimeout s.chanReply = none)
      (hi : replyError .status .midSessionTimeout s.verifyPassed.chanReply = none)
      (hp : ∀ pre m post, allMeas = pre ++ m :: post →
        replyError (measVariant m) .midSessionTimeout (s.collectAt pre).chanReply = none)
      (h : replyError .status .midSessionTimeout (s.collectAt allMeas).chanReply = some e) :
    Collected s (.err e, ((s.collectAt allMeas).setStep 13).exchangeFailed closePayload .status .reply e)
  /-- success (R155) -/
  | complete (hv : replyError .status .channelTimeout s.chanReply = none)
      (hi : replyError .status .midSessionTimeout s.verifyPassed.chanReply = none)
      (hp : ∀ pre m post, allMeas = pre ++ m :: post →
        replyError (measVariant m) .midSessionTimeout (s.collectAt pre).chanReply = none)
      (h : replyError .status .midSessionTimeout (s.collectAt allMeas).chanReply = none) :
    Collected s (.ok .complete,
      ((((s.collectAt allMeas).setStep 13).exchanged closePayload .status .reply).setSess .closed).setStep 14)

/-- Everything `COLLECT` can come to. -/
theorem collectOp_cases (s : State) : Collected s (collectOp s) := by
  rcases verifyOp_cases (s.collectStart.setStep 1) with ⟨e, h1, h2⟩ | ⟨h1, h2⟩
  · by_cases he : e = .channelTimeout
    · subst he
      have hs : s.chanReply = [] := by
        rcases replyError_kinds _ _ _ _ h1 with ⟨h, -⟩ | h | h | ⟨-, c, -, h⟩
        · exact h
        all_goals cases h
      have : collectOp s = (.ok .allZero,
          ((s.collectStart.setStep 1).exchangeFailed testPayload .status .ch .channelTimeout).setStep 14) := by
        simp only [collectOp, h2]
      rw [this]
      exact .degraded hs
    · have : collectOp s = (.err e, (s.collectStart.setStep 1).exchangeFailed testPayload .status .ch e) := by
        simp only [collectOp, h2]
        cases e <;> first | rfl | exact absurd rfl he
      rw [this]
      exact .atVerify e h1 he
  · have hrun : collectOp s = collectInit s.verifyPassed := by simp only [collectOp, h2]; rfl
    rw [hrun]
    rcases initOp_cases (s.verifyPassed.setStep 2) with ⟨h3, -⟩ | ⟨-, e, h3, h4⟩ | ⟨-, h3, h4⟩
    · exact absurd rfl h3
    · have : collectInit s.verifyPassed =
          (.err e, (s.verifyPassed.setStep 2).exchangeFailed initPayload .status .reply e) := by
        simp only [collectInit, h4]
      rw [this]
      exact .atInit e h1 h3
    · have hrun2 : collectInit s.verifyPassed = collectReads allMeas s.verifyPassed.initPassed := by
        simp only [collectInit, h4]; rfl
      rw [hrun2]
      rcases collectReads_cases allMeas s.verifyPassed.initPassed (.inl rfl) with
        ⟨pre, m, post, e, hm, hp, he, hr⟩ | ⟨hall, hr⟩
      · rw [hr]
        exact .atRead pre m post e hm h1 h3 hp he
      · rw [hr]
        rcases collectClose_cases (s.verifyPassed.initPassed.readsPassed allMeas) with ⟨e, h5, h6⟩ | ⟨h5, h6⟩
        · rw [h6]
          exact .atClose e h1 h3 hall h5
        · rw [h6]
          exact .complete h1 h3 hall h5

/-! ### What a run of reads that pass leaves -/

theorem readsPassed_append (ms ns : List Meas) (s : State) :
    s.readsPassed (ms ++ ns) = (s.readsPassed ms).readsPassed ns := by
  induction ms generalizing s with
  | nil => rfl
  | cons m ms ih => exact ih _

@[simp] theorem readsPassed_cfgAddr (ms : List Meas) (s : State) : (s.readsPassed ms).cfgAddr = s.cfgAddr := by
  induction ms generalizing s with
  | nil => rfl
  | cons m ms ih => exact (ih _).trans rfl

theorem readsPassed_reads (ms : List Meas) (s : State) : (s.readsPassed ms).reads = s.reads + ms.length := by
  induction ms generalizing s with
  | nil => rfl
  | cons m ms ih =>
    refine (ih _).trans ?_
    show s.reads + 1 + ms.length = _
    rw [List.length_cons]
    omega

theorem readsPassed_chanIn (ms : List Meas) (s : State) : (s.readsPassed ms).chanIn = s.chanIn.drop ms.length := by
  induction ms generalizing s with
  | nil => rfl
  | cons m ms ih =>
    refine (ih _).trans ?_
    show s.chanIn.tail.drop ms.length = _
    simp

/-- One frame and one read for each, in order (R48, R49). -/
theorem readsPassed_chanLog (ms : List Meas) (s : State) :
    ∃ log, (s.readsPassed ms).chanLog = s.chanLog ++ log ∧ halfDuplex log ∧
      framesWritten log = ms.map fun m => frameOf (s.cfgAddr :: measPayload m) := by
  induction ms generalizing s with
  | nil => exact ⟨[], by simp [State.readsPassed], rfl, rfl⟩
  | cons m ms ih =>
    obtain ⟨log, h1, h2, h3⟩ := ih (s.readPassed m)
    have one : (s.readPassed m).chanLog =
        s.chanLog ++ [.write (frameOf (s.cfgAddr :: measPayload m)), .settle, .read .reply s.chanReply] := rfl
    refine ⟨[.write (frameOf (s.cfgAddr :: measPayload m)), .settle, .read .reply s.chanReply] ++ log, ?_, ?_, ?_⟩
    · show ((s.readPassed m).readsPassed ms).chanLog = _
      rw [h1, one, List.append_assoc]
    · unfold halfDuplex at *
      rw [busRun_append]
      exact h2
    · show _ :: framesWritten log = _
      rw [h3]
      rfl

/-- The destination groups of different measurements are disjoint (R26). -/
theorem measDest_disjoint (m n : Meas) (h : m ≠ n) (r : Nat) (hm : measDest m ≤ r ∧ r < measDest m + measCount m) :
    ¬(measDest n ≤ r ∧ r < measDest n + measCount n) := by
  revert h hm
  cases m <;> cases n <;> simp [measDest, measCount] <;> omega

/-- A register outside the groups of the reads made is as it was. -/
theorem readsPassed_res_other (ms : List Meas) (s : State) (r : Fin 34)
    (h : ∀ m ∈ ms, ¬(measDest m ≤ r.val ∧ r.val < measDest m + measCount m)) : (s.readsPassed ms).res[r] = s.res[r] := by
  induction ms generalizing s with
  | nil => rfl
  | cons m ms ih =>
    refine (ih _ fun n hn => h n (by simp [hn])).trans ?_
    show (groupWritten (measDest m) (responseRaws (parse (measVariant m) s.chanReply)) s.res)[r] = _
    rw [groupWritten_getElem, responseRaws_length, if_neg (h m (by simp))]

end Sys2Proof.Machine
end

