-- ==== Sys2Proof/Laws/Outcomes.lean ====
section
/-! SUPPORT. The outcomes of operations (00_scope.md R13): which can be refused, that a refusal is the one shared `refuse`
(60_exceptions.md R167), and which operation a read instruction runs. -/

namespace Sys2Proof.Machine

theorem collectOp_not_refused (s : State) (r : RefuseReason) : (collectOp s).1 ≠ .refused r := by
  have h := collectOp_cases s
  generalize collectOp s = p at h
  cases h <;> simp

theorem verifyOp_not_refused (s : State) (r : RefuseReason) : (verifyOp s).1 ≠ .refused r := by
  rcases verifyOp_cases s with ⟨e, -, h⟩ | ⟨-, h⟩ <;> simp [h]

theorem closeOp_not_refused (s : State) (r : RefuseReason) : (closeOp s).1 ≠ .refused r := by
  rcases closeOp_cases s with ⟨e, -, h⟩ | ⟨-, h⟩ <;> simp [h]

theorem validateOp_not_refused (v : Variant) (b : List Byte) (s : State) (r : RefuseReason) :
    (validateOp v b s).1 ≠ .refused r := by
  simp only [validateOp]
  cases validate v (s.putRx b).rxBytes <;> simp [checkedResult]

theorem initOp_refused (s : State) (r : RefuseReason) (h : (initOp s).1 = .refused r) : initOp s = refuse r s := by
  rcases initOp_cases s with ⟨-, h2⟩ | ⟨-, e, -, h2⟩ | ⟨-, -, h2⟩ <;> rw [h2] at h <;> cases h
  exact h2

theorem readOp_refused (m : Meas) (s : State) (r : RefuseReason) (h : (readOp m s).1 = .refused r) :
    readOp m s = refuse r s := by
  rcases readOp_cases m s with ⟨-, h2⟩ | ⟨-, e, -, h2⟩ | ⟨-, -, h2⟩ <;> rw [h2] at h <;> cases h
  exact h2

/-- Whatever operation ends refused did nothing but refuse (R13, R167). -/
theorem instrOp_refused (i : Instr) (s : State) (r : RefuseReason) (h : (instrOp i s).1 = .refused r) :
    instrOp i s = refuse r s := by
  cases i
  case crc16 b =>
    simp only [instrOp, crc16Op] at h ⊢
    split at h
    · cases h
    · cases h; simp_all
  case decode3 =>
    simp only [instrOp, decodeOp] at h ⊢
    split at h <;> cases h
    simp_all
  case decode4 =>
    simp only [instrOp, decodeOp] at h ⊢
    split at h <;> cases h
    simp_all
  case validate v b =>
    simp only [instrOp, validateCodeOp] at h ⊢
    split at h
    · cases h; rfl
    · split at h
      · exact absurd h (validateOp_not_refused _ _ s r)
      · cases h
        rw [if_neg ‹_›]
  case read m =>
    simp only [instrOp, readCodeOp] at h ⊢
    split at h
    · cases h; rfl
    · exact readOp_refused _ s r h
  case init => exact initOp_refused s r h
  case verify => exact absurd h (verifyOp_not_refused s r)
  case close => exact absurd h (closeOp_not_refused s r)
  case collect => exact absurd h (collectOp_not_refused s r)
  case readU => exact readOp_refused _ s r h
  case readI => exact readOp_refused _ s r h
  case readCosf => exact readOp_refused _ s r h
  case readFreq => exact readOp_refused _ s r h
  case readAngle => exact readOp_refused _ s r h
  case readP => exact readOp_refused _ s r h
  case readQ => exact readOp_refused _ s r h
  case readEReset => exact readOp_refused _ s r h
  case readEYday => exact readOp_refused _ s r h
  case readEToday => exact readOp_refused _ s r h
  case vStatus => exact absurd h (validateOp_not_refused _ _ s r)
  case vTriple => exact absurd h (validateOp_not_refused _ _ s r)
  case vTriple3 => exact absurd h (validateOp_not_refused _ _ s r)
  case vSumTriple3 => exact absurd h (validateOp_not_refused _ _ s r)
  case vSumQuad3 => exact absurd h (validateOp_not_refused _ _ s r)
  all_goals first | (cases h; done) | (cases h; rfl)

/-- `READ m` in either spelling runs the read of that measurement. -/
theorem instrOp_of_isRead (i : Instr) (m : Meas) (s : State) (h : isRead i m) : instrOp i s = readOp m s := by
  obtain h | rfl := h
  · exact of_mem_readInstrs (P := fun i m => instrOp i s = readOp m s) (fun m => by cases m <;> rfl) h
  · cases m <;> rfl

/-- A selector names a measurement exactly when `READ` of it is a read of that measurement. -/
theorem isRead_of_measOfCode (m : Byte) (x : Meas) (h : measOfCode m = some x) : isRead (.read m) x := by
  have key : ∀ m : Byte, (measOfCode m).all (fun x => m = BitVec.ofNat 8 (measNumber x)) := by decide
  have hm := key m
  rw [h] at hm
  right
  rw [← show m = BitVec.ofNat 8 (measNumber x) by simpa using hm]

/-- Each read instruction is a read of its measurement. -/
theorem isRead_of_mem (i : Instr) (m : Meas) (h : (i, m) ∈ readInstrs) : isRead i m := .inl h

/-! ### The operations that do not use the channel -/

/-- What an operation that does not use the channel leaves as it was: everything but `CRC`, the buffers and `RFS`. -/
structure SameButData (t s : State) : Prop where
  err : t.err = s.err
  status : t.status = s.status
  sess : t.sess = s.sess
  step : t.step = s.step
  cfgAddr : t.cfgAddr = s.cfgAddr
  cfgDump : t.cfgDump = s.cfgDump
  res : t.res = s.res
  busy : t.busy = s.busy
  phase : t.phase = s.phase
  port : t.port = s.port
  chanIn : t.chanIn = s.chanIn
  reads : t.reads = s.reads
  freeReads : t.freeReads = s.freeReads
  chanLog : t.chanLog = s.chanLog
  trace : t.trace = s.trace
  rets : t.rets = s.rets
  hostFaults : t.hostFaults = s.hostFaults

theorem SameButData.refl (s : State) : SameButData s s := by constructor <;> rfl

theorem refuse_same (r : RefuseReason) (s : State) : SameButData (refuse r s).2 s := by constructor <;> rfl

theorem buildOp_same (payload : List Byte) (s : State) : SameButData (buildOp payload s).2 s := by constructor <;> rfl

theorem validateOp_same (v : Variant) (b : List Byte) (s : State) : SameButData (validateOp v b s).2 s := by
  simp only [validateOp, State.crcChecked]
  split <;> constructor <;> rfl

theorem decodeOp_same (raw scale : Nat) (s : State) : SameButData (decodeOp raw scale s).2 s := by
  simp only [decodeOp]
  split <;> constructor <;> rfl

theorem crc16Op_same (b : List Byte) (s : State) : SameButData (crc16Op b s).2 s := by
  simp only [crc16Op]
  split <;> constructor <;> rfl

theorem validateCodeOp_same (v : Byte) (b : List Byte) (s : State) : SameButData (validateCodeOp v b s).2 s := by
  simp only [validateCodeOp]
  split
  · exact refuse_same _ s
  · split
    · exact validateOp_same _ _ s
    · exact refuse_same _ s

/-- The instructions that use the channel. -/
def usesChannel (i : Instr) : Prop :=
  i = .verify ∨ i = .init ∨ (∃ m, isRead i m) ∨ i = .close ∨ i = .collect

/-- Every other instruction leaves all but `CRC`, the buffers and `RFS` as it was. -/
theorem instrOp_same (i : Instr) (s : State) (h : ¬usesChannel i) : SameButData (instrOp i s).2 s := by
  have hr {m : Meas} (hm : (i, m) ∈ readInstrs) : False := h (.inr (.inr (.inl ⟨m, .inl hm⟩)))
  cases i
  case crc16 => exact crc16Op_same _ s
  case decode3 => exact decodeOp_same _ _ s
  case decode4 => exact decodeOp_same _ _ s
  case validate => exact validateCodeOp_same _ _ s
  case verify => exact absurd (.inl rfl) h
  case init => exact absurd (.inr (.inl rfl)) h
  case read m =>
    simp only [instrOp, readCodeOp]
    cases hm : measOfCode m with
    | none => exact refuse_same _ s
    | some x => exact absurd (.inr (.inr (.inl ⟨x, isRead_of_measOfCode m x hm⟩))) h
  case close => exact absurd (.inr (.inr (.inr (.inl rfl)))) h
  case collect => exact absurd (.inr (.inr (.inr (.inr rfl)))) h
  case readU => exact (hr (m := .u) (by decide)).elim
  case readI => exact (hr (m := .i) (by decide)).elim
  case readCosf => exact (hr (m := .cosf) (by decide)).elim
  case readFreq => exact (hr (m := .freq) (by decide)).elim
  case readAngle => exact (hr (m := .angle) (by decide)).elim
  case readP => exact (hr (m := .p) (by decide)).elim
  case readQ => exact (hr (m := .q) (by decide)).elim
  case readEReset => exact (hr (m := .eReset) (by decide)).elim
  case readEYday => exact (hr (m := .eYday) (by decide)).elim
  case readEToday => exact (hr (m := .eToday) (by decide)).elim
  case reservedD => exact refuse_same _ s
  case reservedE => exact refuse_same _ s
  case reservedF => exact refuse_same _ s
  case vStatus => exact validateOp_same _ _ s
  case vTriple => exact validateOp_same _ _ s
  case vTriple3 => exact validateOp_same _ _ s
  case vSumTriple3 => exact validateOp_same _ _ s
  case vSumQuad3 => exact validateOp_same _ _ s
  all_goals exact buildOp_same _ s

/-- What an operation that does not use the channel does to `RFS` and the buffers: `RFS` is set or kept; `TX` is built by a
builder or kept; `RX` is loaded by a validate operation, with at most `RX_MAX` bytes, or kept. -/
structure DataMoves (i : Instr) (t s : State) : Prop where
  rfs : s.rfs = true → t.rfs = true
  tx : (t.tx = s.tx ∧ t.txLen = s.txLen) ∨
    ∃ payload, builderPayload i = some payload ∧ t.tx = Memory.ofBytes (frameOf (s.cfgAddr :: payload)) ∧
      t.txLen = payload.length + 3
  rx : (t.rx = s.rx ∧ t.rxLen = s.rxLen) ∨
    ((∃ v b, i = .validate v b) ∨ ∃ v b, encode i = .frameIn v b) ∧
      ∃ b : List Byte, b.length ≤ Config.rxMax ∧ t.rx = Memory.ofBytes b ∧ t.rxLen = b.length

theorem refuse_moves (i : Instr) (r : RefuseReason) (s : State) : DataMoves i (refuse r s).2 s :=
  ⟨fun _ => rfl, .inl ⟨rfl, rfl⟩, .inl ⟨rfl, rfl⟩⟩

theorem buildOp_moves (i : Instr) (payload : List Byte) (s : State) (h : builderPayload i = some payload) :
    DataMoves i (buildOp payload s).2 s :=
  ⟨id, .inr ⟨payload, h, rfl, frameOf_length _⟩, .inl ⟨rfl, rfl⟩⟩

theorem validateOp_moves (i : Instr) (v : Variant) (b : List Byte) (s : State)
    (hi : (∃ v b, i = .validate v b) ∨ ∃ v b, encode i = .frameIn v b) (hb : b.length ≤ Config.rxMax) :
    DataMoves i (validateOp v b s).2 s := by
  simp only [validateOp, State.crcChecked]
  split
  · exact ⟨id, .inl ⟨rfl, rfl⟩, .inr ⟨hi, b, hb, rfl, rfl⟩⟩
  · exact ⟨id, .inl ⟨rfl, rfl⟩, .inr ⟨hi, b, hb, rfl, rfl⟩⟩

theorem decodeOp_moves (i : Instr) (raw scale : Nat) (s : State) : DataMoves i (decodeOp raw scale s).2 s := by
  simp only [decodeOp]
  split
  · exact refuse_moves i _ s
  · exact ⟨id, .inl ⟨rfl, rfl⟩, .inl ⟨rfl, rfl⟩⟩

theorem instrOp_moves (i : Instr) (s : State) (h : ¬usesChannel i) : DataMoves i (instrOp i s).2 s := by
  have hr {m : Meas} (hm : (i, m) ∈ readInstrs) : False := h (.inr (.inr (.inl ⟨m, .inl hm⟩)))
  cases i
  case crc16 =>
    simp only [instrOp, crc16Op]
    split
    · exact ⟨id, .inl ⟨rfl, rfl⟩, .inl ⟨rfl, rfl⟩⟩
    · exact refuse_moves _ _ s
  case decode3 => exact decodeOp_moves _ _ _ s
  case decode4 => exact decodeOp_moves _ _ _ s
  case validate v b =>
    simp only [instrOp, validateCodeOp]
    split
    · exact refuse_moves _ _ s
    · split
      · exact validateOp_moves _ _ _ s (.inl ⟨v, b, rfl⟩) ‹_›
      · exact refuse_moves _ _ s
  case verify => exact absurd (.inl rfl) h
  case init => exact absurd (.inr (.inl rfl)) h
  case read m =>
    simp only [instrOp, readCodeOp]
    cases hm : measOfCode m with
    | none => exact refuse_moves _ _ s
    | some x => exact absurd (.inr (.inr (.inl ⟨x, isRead_of_measOfCode m x hm⟩))) h
  case close => exact absurd (.inr (.inr (.inr (.inl rfl)))) h
  case collect => exact absurd (.inr (.inr (.inr (.inr rfl)))) h
  case readU => exact (hr (m := .u) (by decide)).elim
  case readI => exact (hr (m := .i) (by decide)).elim
  case readCosf => exact (hr (m := .cosf) (by decide)).elim
  case readFreq => exact (hr (m := .freq) (by decide)).elim
  case readAngle => exact (hr (m := .angle) (by decide)).elim
  case readP => exact (hr (m := .p) (by decide)).elim
  case readQ => exact (hr (m := .q) (by decide)).elim
  case readEReset => exact (hr (m := .eReset) (by decide)).elim
  case readEYday => exact (hr (m := .eYday) (by decide)).elim
  case readEToday => exact (hr (m := .eToday) (by decide)).elim
  case reservedD => exact refuse_moves _ _ s
  case reservedE => exact refuse_moves _ _ s
  case reservedF => exact refuse_moves _ _ s
  case vStatus => exact validateOp_moves _ _ _ s (.inr ⟨_, _, rfl⟩) (show 4 ≤ 32 by decide)
  case vTriple => exact validateOp_moves _ _ _ s (.inr ⟨_, _, rfl⟩) (show 6 ≤ 32 by decide)
  case vTriple3 => exact validateOp_moves _ _ _ s (.inr ⟨_, _, rfl⟩) (show 12 ≤ 32 by decide)
  case vSumTriple3 => exact validateOp_moves _ _ _ s (.inr ⟨_, _, rfl⟩) (show 15 ≤ 32 by decide)
  case vSumQuad3 => exact validateOp_moves _ _ _ s (.inr ⟨_, _, rfl⟩) (show 19 ≤ 32 by decide)
  all_goals exact buildOp_moves _ _ s rfl

/-- A payload is at most 8 bytes (R58). -/
theorem builderPayload_length (i : Instr) (payload : List Byte) (h : builderPayload i = some payload) :
    payload.length ≤ 8 := by
  cases i <;> first | (cases h; done) | (cases h; simp)

/-! ### One induction over everything the engine can do -/

/-- The moves every operation is made of. A property that each of them keeps is kept by every instruction. -/
structure KeptByMoves (P : State → Prop) : Prop where
  /-- the operations that do not use the channel -/
  pure : ∀ i s, ¬usesChannel i → P s → P (instrOp i s).2
  /-- a refusal -/
  refused : ∀ s, P s → P s.setRfs
  /-- the start of `COLLECT` -/
  start : ∀ s, P s → P s.collectStart
  /-- `STEP` advances -/
  step : ∀ k s, k ≤ 14 → P s → P (s.setStep k)
  /-- an exchange with a status reply that passes -/
  passed : ∀ payload t x s, payload ∈ sessionPayloads → P s → P ((s.exchanged payload .status t).setSess x)
  /-- a read that passes -/
  read : ∀ m s, P s → P ((deliver m (parse (measVariant m) s.chanReply)
    (s.exchanged (measPayload m) (measVariant m) .reply)).setSess .reading)
  /-- an exchange that fails -/
  failed : ∀ payload v t e s, payload ∈ sessionPayloads → (∀ code, e = .protocolError code → code ≠ 0) → P s →
    P (s.exchangeFailed payload v t e)

/-- A code of 0 is never carried by an error a reply raises (R120). -/
theorem replyError_code_ne_zero (v : Variant) (silence e : ErrKind) (b : List Byte) (hsil : carriedCode silence = none)
    (h : replyError v silence b = some e) (code : BitVec 4) (he : e = .protocolError code) : code ≠ 0 := by
  rcases replyError_kinds v silence e b h with ⟨-, h⟩ | h | h | ⟨-, c, hc, h⟩
  · subst he
    rw [← h] at hsil
    cases hsil
  · subst he
    cases h
  · subst he
    cases h
  · subst he
    cases h
    exact hc

theorem testPayload_mem : testPayload ∈ sessionPayloads := by simp [sessionPayloads]

theorem initPayload_mem : initPayload ∈ sessionPayloads := by simp [sessionPayloads]

theorem measPayload_mem (m : Meas) : measPayload m ∈ sessionPayloads := by
  cases m <;> simp [sessionPayloads, allMeas]

theorem closePayload_mem : closePayload ∈ sessionPayloads := by simp [sessionPayloads]

/-- A session's payload is at most 8 bytes (R58). -/
theorem sessionPayloads_length : ∀ payload ∈ sessionPayloads, payload.length ≤ 8 := by
  simp [sessionPayloads, allMeas, measPayload, initPayload, testPayload, closePayload]

namespace KeptByMoves

variable {P : State → Prop}

theorem readsPassed (k : KeptByMoves P) (ms : List Meas) (s : State) (h : P s) : P (s.readsPassed ms) := by
  induction ms generalizing s with
  | nil => exact h
  | cons m ms ih =>
    have hm : 2 + measNumber m ≤ 14 := by cases m <;> decide
    exact ih _ (k.read m _ (k.step _ s hm h))

theorem verifyPassed (k : KeptByMoves P) (s : State) (h : P s) : P s.verifyPassed :=
  k.passed _ _ _ _ testPayload_mem (k.step 1 _ (by decide) (k.start s h))

theorem collectAt (k : KeptByMoves P) (ms : List Meas) (s : State) (h : P s) : P (s.collectAt ms) :=
  k.readsPassed ms _ (k.passed _ _ _ _ initPayload_mem (k.step 2 _ (by decide) (k.verifyPassed s h)))

theorem verifyOp (k : KeptByMoves P) (s : State) (h : P s) : P (verifyOp s).2 := by
  rcases verifyOp_cases s with ⟨e, h1, h2⟩ | ⟨-, h2⟩ <;> rw [h2]
  · exact k.failed _ _ _ _ s testPayload_mem (replyError_code_ne_zero _ _ _ _ rfl h1) h
  · exact k.passed _ _ _ s testPayload_mem h

theorem initOp (k : KeptByMoves P) (s : State) (h : P s) : P (initOp s).2 := by
  rcases initOp_cases s with ⟨-, h2⟩ | ⟨-, e, h1, h2⟩ | ⟨-, -, h2⟩ <;> rw [h2]
  · exact k.refused s h
  · exact k.failed _ _ _ _ s initPayload_mem (replyError_code_ne_zero _ _ _ _ rfl h1) h
  · exact k.passed _ _ _ s initPayload_mem h

theorem readOp (k : KeptByMoves P) (m : Meas) (s : State) (h : P s) : P (readOp m s).2 := by
  rcases readOp_cases m s with ⟨-, h2⟩ | ⟨-, e, h1, h2⟩ | ⟨-, -, h2⟩ <;> rw [h2]
  · exact k.refused s h
  · exact k.failed _ _ _ _ s (measPayload_mem m) (replyError_code_ne_zero _ _ _ _ rfl h1) h
  · exact k.read m s h

theorem closeOp (k : KeptByMoves P) (s : State) (h : P s) : P (closeOp s).2 := by
  rcases closeOp_cases s with ⟨e, h1, h2⟩ | ⟨-, h2⟩ <;> rw [h2]
  · exact k.failed _ _ _ _ s closePayload_mem (replyError_code_ne_zero _ _ _ _ rfl h1) h
  · exact k.passed _ _ _ s closePayload_mem h

theorem collectOp (k : KeptByMoves P) (s : State) (h : P s) : P (collectOp s).2 := by
  have hat (ms : List Meas) : P (s.collectAt ms) := k.collectAt ms s h
  have hv : P s.verifyPassed := k.verifyPassed s h
  have hc := collectOp_cases s
  generalize Machine.collectOp s = p at hc
  cases hc with
  | degraded =>
    exact k.step 14 _ (by decide) (k.failed _ _ _ _ _ testPayload_mem (by intro c hc; cases hc)
      (k.step 1 _ (by decide) (k.start s h)))
  | atVerify e h1 =>
    exact k.failed _ _ _ _ _ testPayload_mem (replyError_code_ne_zero _ _ _ _ rfl h1)
      (k.step 1 _ (by decide) (k.start s h))
  | atInit e _ h1 =>
    exact k.failed _ _ _ _ _ initPayload_mem (replyError_code_ne_zero _ _ _ _ rfl h1) (k.step 2 _ (by decide) hv)
  | atRead pre m post e _ _ _ _ h1 =>
    have hm : 2 + measNumber m ≤ 14 := by cases m <;> decide
    exact k.failed _ _ _ _ _ (measPayload_mem m) (replyError_code_ne_zero _ _ _ _ rfl h1) (k.step _ _ hm (hat pre))
  | atClose e _ _ _ h1 =>
    exact k.failed _ _ _ _ _ closePayload_mem (replyError_code_ne_zero _ _ _ _ rfl h1) (k.step 13 _ (by decide) (hat _))
  | complete => exact k.step 14 _ (by decide) (k.passed _ _ _ _ closePayload_mem (k.step 13 _ (by decide) (hat _)))

/-- A property that every move keeps is kept by every instruction's operation. -/
theorem instrOp (k : KeptByMoves P) (i : Instr) (s : State) (h : P s) : P (instrOp i s).2 := by
  by_cases hi : usesChannel i
  · rcases hi with rfl | rfl | ⟨m, hm⟩ | rfl | rfl
    · exact k.verifyOp s h
    · exact k.initOp s h
    · rw [instrOp_of_isRead i m s hm]
      exact k.readOp m s h
    · exact k.closeOp s h
    · exact k.collectOp s h
  · exact k.pure i s hi h

end KeptByMoves

end Sys2Proof.Machine
end

