-- ==== Sys2Proof/Laws/PerInstr.lean ====
section
/-! SUPPORT. Statements made once for each constructor of `Instr` (LAWS.json, "per_instruction"). -/

namespace Sys2Proof.Laws.FrameLength

open Sys2Proof.Machine

/-- 30_encoding.md R57, R59, R62: the words of a frame have exactly the fixed length of its layout (an outgoing frame 4, 11, 4
or 6 by its command byte; a reply the size of its variant), and a host operation has at least its select byte. -/
def Statement (i : Instr) : Prop :=
  match encode i with
  | .hostOp bytes => 1 ≤ bytes.length
  | .frameOut bytes =>
    bytes.length = 6 ∨ (bytes.length = 4 ∧ (bytes.getD 1 0 = 0x00 ∨ bytes.getD 1 0 = 0x02)) ∨
      (bytes.length = 11 ∧ bytes.getD 1 0 = 0x01)
  | .energyOut _ bytes => bytes.length = 6 ∧ bytes.getD 1 0 = 0x05
  | .frameIn v bytes => bytes.length = variantSize v

theorem crc16 (bytes : List Byte) : Statement (.crc16 bytes) := by
  simp [Statement, encode]

theorem decode3 (b0 b1 b2 : Byte) (scale : Nat) : Statement (.decode3 b0 b1 b2 scale) := by
  simp [Statement, encode]

theorem decode4 (b0 b1 b2 b3 : Byte) (scale : Nat) : Statement (.decode4 b0 b1 b2 b3 scale) := by
  simp [Statement, encode]

theorem buildTest : Statement .buildTest := by
  simp [Statement, encode]

theorem buildInit : Statement .buildInit := by
  simp [Statement, encode]

theorem buildClose : Statement .buildClose := by
  simp [Statement, encode]

theorem buildRead (cmd paramId subIndex : Byte) : Statement (.buildRead cmd paramId subIndex) := by
  simp [Statement, encode]

theorem validate (v : Byte) (buffer : List Byte) : Statement (.validate v buffer) := by
  simp [Statement, encode]

theorem verify : Statement .verify := by
  simp [Statement, encode]

theorem init : Statement .init := by
  simp [Statement, encode]

theorem read (m : Byte) : Statement (.read m) := by
  simp [Statement, encode]

theorem readU : Statement .readU := by
  simp [Statement, encode]

theorem readI : Statement .readI := by
  simp [Statement, encode]

theorem readCosf : Statement .readCosf := by
  simp [Statement, encode]

theorem readFreq : Statement .readFreq := by
  simp [Statement, encode]

theorem readAngle : Statement .readAngle := by
  simp [Statement, encode]

theorem readP : Statement .readP := by
  simp [Statement, encode]

theorem readQ : Statement .readQ := by
  simp [Statement, encode]

theorem readEReset : Statement .readEReset := by
  simp [Statement, encode]

theorem readEYday : Statement .readEYday := by
  simp [Statement, encode]

theorem readEToday : Statement .readEToday := by
  simp [Statement, encode]

theorem close : Statement .close := by
  simp [Statement, encode]

theorem collect : Statement .collect := by
  simp [Statement, encode]

theorem reservedD : Statement .reservedD := by
  simp [Statement, encode]

theorem reservedE : Statement .reservedE := by
  simp [Statement, encode]

theorem reservedF : Statement .reservedF := by
  simp [Statement, encode]

theorem frameTest : Statement .frameTest := by
  simp [Statement, encode]

theorem frameInit : Statement .frameInit := by
  simp [Statement, encode]

theorem frameClose : Statement .frameClose := by
  simp [Statement, encode]

theorem frameRead (cmd paramId subIndex : Byte) : Statement (.frameRead cmd paramId subIndex) := by
  simp [Statement, encode]

theorem frameReadU : Statement .frameReadU := by
  simp [Statement, encode]

theorem frameReadI : Statement .frameReadI := by
  simp [Statement, encode]

theorem frameReadCosf : Statement .frameReadCosf := by
  simp [Statement, encode]

theorem frameReadFreq : Statement .frameReadFreq := by
  simp [Statement, encode]

theorem frameReadAngle : Statement .frameReadAngle := by
  simp [Statement, encode]

theorem frameReadP : Statement .frameReadP := by
  simp [Statement, encode]

theorem frameReadQ : Statement .frameReadQ := by
  simp [Statement, encode]

theorem frameReadEReset : Statement .frameReadEReset := by
  simp [Statement, encode]

theorem frameReadEYday : Statement .frameReadEYday := by
  simp [Statement, encode]

theorem frameReadEToday : Statement .frameReadEToday := by
  simp [Statement, encode]

theorem vStatus (addr status : Byte) (crc : U16) : Statement (.vStatus addr status crc) :=
  rfl

theorem vTriple (addr : Byte) (value : Triple) (crc : U16) : Statement (.vTriple addr value crc) :=
  rfl

theorem vTriple3 (addr : Byte) (p1 p2 p3 : Triple) (crc : U16) : Statement (.vTriple3 addr p1 p2 p3 crc) :=
  rfl

theorem vSumTriple3 (addr : Byte) (sum p1 p2 p3 : Triple) (crc : U16) : Statement (.vSumTriple3 addr sum p1 p2 p3 crc) :=
  rfl

theorem vSumQuad3 (addr : Byte) (sum p1 p2 p3 : Quad) (crc : U16) : Statement (.vSumQuad3 addr sum p1 p2 p3 crc) :=
  rfl

end Sys2Proof.Laws.FrameLength
end

