-- ==== Sys2Proof/Laws/Port.lean ====
section
/-! SUPPORT. The host port: what the host attempts while an operation runs changes nothing the operation reads (10_state.md
R28), every instruction only adds to the channel's record, and what reset cuts off is a prefix (70_reset_and_hazards.md
R185). -/

namespace Sys2Proof.Machine

/-- A read that returns a free value writes no register. -/
theorem State.freeRead_eq (r : HostReg) (s : State) :
    s.freeRead r =
      { s with
        freeReads := s.freeReads + 1
        rets := s.rets ++ [.ok (freeValue r (Config.freeRegister s.freeReads))] } := rfl

/-- A read while `BUSY` = 1 gives some value back and writes no register (R29). -/
theorem State.readBusy_eq (r : HostReg) (s : State) :
    ∃ v f, s.readBusy r = { s with freeReads := f, rets := s.rets ++ [.ok v] } := by
  simp only [State.readBusy]
  split
  · exact ⟨_, _, s.freeRead_eq r⟩
  · split
    · exact ⟨_, s.freeReads, rfl⟩
    · exact ⟨_, _, s.freeRead_eq r⟩

/-- A read while `BUSY` = 0 of a register that has a value gives that value back; of one that has none it is a fault of the host
program and returns a free value (R33, R45). -/
theorem State.readIdle_cases (r : HostReg) (s : State) :
    (∃ v, s.regValue r = some v ∧ s.readIdle r = s.giveBack (.ok v)) ∨
    (s.regValue r = none ∧
      s.readIdle r =
        { s with
          freeReads := s.freeReads + 1
          rets := s.rets ++ [.ok (freeValue r (Config.freeRegister s.freeReads))]
          hostFaults := s.hostFaults ++ [r] }) := by
  simp only [State.readIdle]
  cases s.regValue r with
  | some v => exact .inl ⟨v, rfl, rfl⟩
  | none => exact .inr ⟨rfl, rfl⟩

/-- An attempt while `BUSY` = 1: it is answered, and nothing else changes but `RFS` and the count of free reads. -/
theorem State.attempt_answered (a : Attempt) (s : State) (h : s.busy = true) :
    ∃ x f, attemptAnswered a x ∧
      s.attempt a = { s with rfs := (s.attempt a).rfs, freeReads := f, rets := s.rets ++ [x] } := by
  cases a with
  | issue w => exact ⟨_, s.freeReads, rfl, rfl⟩
  | writeAddr v =>
    rw [show s.attempt (.writeAddr v) = s.refuseBusy from if_pos h]
    exact ⟨_, s.freeReads, rfl, rfl⟩
  | writeDump v =>
    rw [show s.attempt (.writeDump v) = s.refuseBusy from if_pos h]
    exact ⟨_, s.freeReads, rfl, rfl⟩
  | readReg r =>
    obtain ⟨v, f, hv⟩ := s.readBusy_eq r
    rw [show s.attempt (.readReg r) = s.readBusy r from rfl, hv]
    exact ⟨_, f, ⟨v, rfl⟩, rfl⟩

/-- An attempt while `BUSY` = 1 changes `RFS`, the outcomes and the count of free reads, and nothing else. -/
theorem State.attempt_eq (a : Attempt) (s : State) (h : s.busy = true) :
    s.attempt a =
      { s with rfs := (s.attempt a).rfs, freeReads := (s.attempt a).freeReads, rets := (s.attempt a).rets } := by
  cases a with
  | issue w => rfl
  | writeAddr v => rw [show s.attempt (.writeAddr v) = s.refuseBusy from if_pos h]; rfl
  | writeDump v => rw [show s.attempt (.writeDump v) = s.refuseBusy from if_pos h]; rfl
  | readReg r =>
    obtain ⟨v, f, hv⟩ := s.readBusy_eq r
    rw [show s.attempt (.readReg r) = s.readBusy r from rfl, hv]

/-- `RFS` is sticky over an attempt (R19). -/
theorem State.attempt_rfs (a : Attempt) (s : State) (h : s.rfs = true) : (s.attempt a).rfs = true := by
  cases a with
  | issue w => rfl
  | writeAddr v =>
    simp only [State.attempt, State.hostWriteAddr]
    split
    · rfl
    · exact h
  | writeDump v =>
    simp only [State.attempt, State.hostWriteDump]
    split
    · rfl
    · exact h
  | readReg r =>
    obtain ⟨v, f, hv⟩ := s.readBusy_eq r
    rw [show s.attempt (.readReg r) = s.readBusy r from rfl, hv]
    exact h

/-- Attempts one after another. -/
theorem attempts_foldl_eq (as : List Attempt) (s : State) (h : s.busy = true) :
    ∃ r f o, as.foldl (fun t a => t.attempt a) s = { s with rfs := r, freeReads := f, rets := o } := by
  induction as generalizing s with
  | nil => exact ⟨s.rfs, s.freeReads, s.rets, rfl⟩
  | cons a as ih =>
    have hb : (s.attempt a).busy = true := by rw [State.attempt_eq a s h]; exact h
    obtain ⟨r, f, o, he⟩ := ih (s.attempt a) hb
    refine ⟨r, f, o, ?_⟩
    rw [List.foldl_cons, he, State.attempt_eq a s h]

/-- What is attempted during an operation changes nothing the operation reads. -/
theorem State.attempts_eq (as : List Attempt) (s : State) :
    ∃ r f o, s.attempts as = { s with rfs := r, freeReads := f, rets := o } := by
  obtain ⟨r, f, o, h⟩ := attempts_foldl_eq as (s.setBusy true) rfl
  refine ⟨r, f, o, ?_⟩
  simp only [State.attempts, h]
  rfl

/-- The attempts are answered in order. -/
theorem attempts_foldl_answered (as : List Attempt) (s : State) (h : s.busy = true) :
    ∃ answers, List.Forall₂ attemptAnswered as answers ∧
      (as.foldl (fun t a => t.attempt a) s).rets = s.rets ++ answers := by
  induction as generalizing s with
  | nil => exact ⟨[], .nil, by simp⟩
  | cons a as ih =>
    obtain ⟨x, f, hx, he⟩ := s.attempt_answered a h
    have hb : (s.attempt a).busy = true := by rw [he]; exact h
    obtain ⟨answers, hf, hr⟩ := ih (s.attempt a) hb
    refine ⟨x :: answers, .cons hx hf, ?_⟩
    rw [List.foldl_cons, hr, he]
    simp

/-- The attempts during an operation are answered in order, before the operation (log 4). -/
theorem State.attempts_answered (as : List Attempt) (s : State) :
    ∃ answers, List.Forall₂ attemptAnswered as answers ∧ (s.attempts as).rets = s.rets ++ answers :=
  attempts_foldl_answered as (s.setBusy true) rfl

theorem State.attempts_nil (s : State) : s.attempts [] = s := rfl

/-- Whatever an instruction does, it adds to the channel's record and changes nothing of it. -/
theorem chanLog_grows (s : State) : KeptByMoves (fun t => ∃ log, t.chanLog = s.chanLog ++ log) where
  pure i x h k := by rw [(instrOp_same i x h).chanLog]; exact k
  refused _ k := k
  start _ k := k
  step _ _ _ k := k
  passed p t _ x _ k := by
    obtain ⟨log, h⟩ := k
    exact ⟨_, by show x.chanLog ++ _ = _; rw [h, List.append_assoc]⟩
  read m x k := by
    obtain ⟨log, h⟩ := k
    exact ⟨_, by show x.chanLog ++ _ = _; rw [h, List.append_assoc]⟩
  failed p v t e x _ _ k := by
    obtain ⟨log, h⟩ := k
    exact ⟨_, by show x.chanLog ++ _ = _; rw [h, List.append_assoc]⟩

theorem instrOp_chanLog (i : Instr) (s : State) : ∃ log, (instrOp i s).2.chanLog = s.chanLog ++ log :=
  (chanLog_grows s).instrOp i s ⟨[], by simp⟩

/-- A reset may follow any access. -/
theorem busRun_reset (p : BusPhase) : busRun p [.reset] = some .quiet := by
  cases p <;> rfl

/-- What reset leaves of a disciplined run of accesses is disciplined. -/
theorem busRun_cut (whole part : Nat) (log : List ChanEvent) (p : BusPhase) (h : ∃ q, busRun p log = some q) :
    ∃ q, busRun p (cutAccesses whole part log) = some q := by
  induction log generalizing whole p with
  | nil => cases whole <;> exact ⟨p, rfl⟩
  | cons e es ih =>
    cases whole with
    | zero =>
      cases e with
      | write b =>
        obtain ⟨q, h⟩ := h
        cases p <;> simp [busRun, busStep] at h
        cases part <;> exact ⟨_, rfl⟩
      | settle => exact ⟨p, rfl⟩
      | read t b => exact ⟨p, rfl⟩
      | reset => exact ⟨p, rfl⟩
    | succ n =>
      simp only [cutAccesses, busRun] at *
      cases hb : busStep p e with
      | none =>
        rw [hb] at h
        simp at h
      | some p' =>
        rw [hb] at h
        exact ih n p' h

end Sys2Proof.Machine
end

