-- ==== Sys2Proof/Laws/Related.lean ====
section
/-! SUPPORT. Two runs side by side: a relation between states that every move of the engine keeps, and that makes the two
channels answer alike, makes every instruction end alike and keeps the relation. -/

namespace Sys2Proof.Machine

/-- What an operation that does not use the channel returns depends on its operands and on `CFG_ADDR` alone (R89, R98,
R117). -/
theorem instrOp_outcome (i : Instr) (a b : State) (h : ¬usesChannel i) (ha : a.cfgAddr = b.cfgAddr) :
    (instrOp i a).1 = (instrOp i b).1 := by
  have hr {m : Meas} (hm : (i, m) ∈ readInstrs) : False := h (.inr (.inr (.inl ⟨m, .inl hm⟩)))
  have build (payload : List Byte) : (buildOp payload a).1 = (buildOp payload b).1 := by
    simp [buildOp, ha]
  have valid (v : Variant) (bytes : List Byte) : (validateOp v bytes a).1 = (validateOp v bytes b).1 := by
    simp [validateOp]
  cases i
  case crc16 =>
    simp only [instrOp, crc16Op]
    split <;> rfl
  case decode3 =>
    simp only [instrOp, decodeOp]
    split <;> rfl
  case decode4 =>
    simp only [instrOp, decodeOp]
    split <;> rfl
  case validate v bytes =>
    simp only [instrOp, validateCodeOp]
    split
    · rfl
    · split
      · exact valid _ _
      · rfl
  case verify => exact absurd (.inl rfl) h
  case init => exact absurd (.inr (.inl rfl)) h
  case read m =>
    simp only [instrOp, readCodeOp]
    cases hm : measOfCode m with
    | none => rfl
    | some x => exact absurd (.inr (.inr (.inl ⟨x, isRead_of_measOfCode m x hm⟩))) h
  case close => exact absurd (.inr (.inr (.inr (.inl rfl)))) h
  case collect => exact absurd (.inr (.inr (.inr (.inr rfl)))) h
  case readU => exact (hr (m := .u) (by decide)).elim
  case readI => exact (hr (m := .i) (by decide)).elim
  case readCosf => exact (hr (m := .cosf) (by decide)).elim
  case readFreq => exact (hr (m := .freq) (by decide)).elim
  case readAngle => exact (hr (m := .angle) (by decide)).elim
  case readP => exact (hr (m := .p) (by decide)).elim
  case readQ => exact (hr (m := .q) (by decide)).elim
  case readEReset => exact (hr (m := .eReset) (by decide)).elim
  case readEYday => exact (hr (m := .eYday) (by decide)).elim
  case readEToday => exact (hr (m := .eToday) (by decide)).elim
  case reservedD => rfl
  case reservedE => rfl
  case reservedF => rfl
  case vStatus => exact valid _ _
  case vTriple => exact valid _ _
  case vTriple3 => exact valid _ _
  case vSumTriple3 => exact valid _ _
  case vSumQuad3 => exact valid _ _
  all_goals exact build _

/-- Two ends of an operation: the same outcome, related states. -/
def Alike (R : State → State → Prop) (p q : OpResult × State) : Prop := p.1 = q.1 ∧ R p.2 q.2

/-- The moves every operation is made of, made by two machines. -/
structure RelatedByMoves (R : State → State → Prop) : Prop where
  reply : ∀ a b, R a b → a.chanReply = b.chanReply
  sess : ∀ a b, R a b → a.sess = b.sess
  /-- the operations that do not use the channel -/
  pure : ∀ i a b, ¬usesChannel i → R a b → Alike R (instrOp i a) (instrOp i b)
  refused : ∀ a b, R a b → R a.setRfs b.setRfs
  start : ∀ a b, R a b → R a.collectStart b.collectStart
  step : ∀ k a b, R a b → R (a.setStep k) (b.setStep k)
  setSess : ∀ x a b, R a b → R (a.setSess x) (b.setSess x)
  exchanged : ∀ payload v t a b, R a b → R (a.exchanged payload v t) (b.exchanged payload v t)
  delivered : ∀ m r a b, R a b → R (deliver m r a) (deliver m r b)
  failed : ∀ payload v t e a b, R a b → R (a.exchangeFailed payload v t e) (b.exchangeFailed payload v t e)

namespace RelatedByMoves

variable {R : State → State → Prop}

theorem verifyOp (k : RelatedByMoves R) (a b : State) (h : R a b) : Alike R (verifyOp a) (verifyOp b) := by
  have hr := k.reply a b h
  rcases verifyOp_cases a with ⟨e, h1, h2⟩ | ⟨h1, h2⟩ <;> rcases verifyOp_cases b with ⟨e', h3, h4⟩ | ⟨h3, h4⟩ <;>
    rw [← hr, h1] at h3 <;> cases h3 <;> rw [h2, h4]
  · exact ⟨rfl, k.failed _ _ _ _ a b h⟩
  · exact ⟨rfl, k.setSess _ _ _ (k.exchanged _ _ _ a b h)⟩

theorem initOp (k : RelatedByMoves R) (a b : State) (h : R a b) : Alike R (initOp a) (initOp b) := by
  have hr := k.reply a b h
  have hs := k.sess a b h
  rcases initOp_cases a with ⟨h0, h2⟩ | ⟨h0, e, h1, h2⟩ | ⟨h0, h1, h2⟩ <;>
    rcases initOp_cases b with ⟨h5, h4⟩ | ⟨h5, e', h3, h4⟩ | ⟨h5, h3, h4⟩ <;> rw [hs] at h0 <;>
    first | exact absurd h0 h5 | exact absurd h5 h0 | rw [h2, h4]
  · exact ⟨rfl, k.refused a b h⟩
  · rw [← hr, h1] at h3
    cases h3
    exact ⟨rfl, k.failed _ _ _ _ a b h⟩
  · rw [← hr, h1] at h3
    cases h3
  · rw [← hr, h1] at h3
    cases h3
  · exact ⟨rfl, k.setSess _ _ _ (k.exchanged _ _ _ a b h)⟩

theorem readOp (k : RelatedByMoves R) (m : Meas) (a b : State) (h : R a b) : Alike R (readOp m a) (readOp m b) := by
  have hr := k.reply a b h
  have hs := k.sess a b h
  rcases readOp_cases m a with ⟨h0, h2⟩ | ⟨h0, e, h1, h2⟩ | ⟨h0, h1, h2⟩ <;>
    rcases readOp_cases m b with ⟨h5, h4⟩ | ⟨h5, e', h3, h4⟩ | ⟨h5, h3, h4⟩ <;> rw [hs] at h0 <;>
    first | exact absurd h0 h5 | exact absurd h5 h0 | rw [h2, h4]
  · exact ⟨rfl, k.refused a b h⟩
  · rw [← hr, h1] at h3
    cases h3
    exact ⟨rfl, k.failed _ _ _ _ a b h⟩
  · rw [← hr, h1] at h3
    cases h3
  · rw [← hr, h1] at h3
    cases h3
  · refine ⟨rfl, k.setSess _ _ _ ?_⟩
    rw [hr]
    exact k.delivered _ _ _ _ (k.exchanged _ _ _ a b h)

theorem closeOp (k : RelatedByMoves R) (a b : State) (h : R a b) : Alike R (closeOp a) (closeOp b) := by
  have hr := k.reply a b h
  rcases closeOp_cases a with ⟨e, h1, h2⟩ | ⟨h1, h2⟩ <;> rcases closeOp_cases b with ⟨e', h3, h4⟩ | ⟨h3, h4⟩ <;>
    rw [← hr, h1] at h3 <;> cases h3 <;> rw [h2, h4]
  · exact ⟨rfl, k.failed _ _ _ _ a b h⟩
  · exact ⟨rfl, k.setSess _ _ _ (k.exchanged _ _ _ a b h)⟩

theorem collectClose (k : RelatedByMoves R) (a b : State) (h : R a b) : Alike R (collectClose a) (collectClose b) := by
  have hc := k.closeOp _ _ (k.step 13 a b h)
  unfold Machine.collectClose
  generalize Machine.closeOp (a.setStep 13) = p at hc
  generalize Machine.closeOp (b.setStep 13) = q at hc
  obtain ⟨o, s⟩ := p
  obtain ⟨o', t⟩ := q
  obtain ⟨ho, hst⟩ := hc
  cases ho
  cases o with
  | ok => exact ⟨rfl, k.step 14 _ _ hst⟩
  | err => exact ⟨rfl, hst⟩
  | refused => exact ⟨rfl, hst⟩

theorem collectReads (k : RelatedByMoves R) (ms : List Meas) (a b : State) (h : R a b) :
    Alike R (collectReads ms a) (collectReads ms b) := by
  induction ms generalizing a b with
  | nil => exact k.collectClose a b h
  | cons m ms ih =>
    have hm := k.readOp m _ _ (k.step (2 + measNumber m) a b h)
    unfold Machine.collectReads
    generalize Machine.readOp m (a.setStep (2 + measNumber m)) = p at hm
    generalize Machine.readOp m (b.setStep (2 + measNumber m)) = q at hm
    obtain ⟨o, s⟩ := p
    obtain ⟨o', t⟩ := q
    obtain ⟨ho, hst⟩ := hm
    cases ho
    cases o with
    | ok => exact ih _ _ hst
    | err => exact ⟨rfl, hst⟩
    | refused => exact ⟨rfl, hst⟩

theorem collectOp (k : RelatedByMoves R) (a b : State) (h : R a b) : Alike R (collectOp a) (collectOp b) := by
  have hv := k.verifyOp _ _ (k.step 1 _ _ (k.start a b h))
  unfold Machine.collectOp
  generalize Machine.verifyOp (a.collectStart.setStep 1) = p at hv
  generalize Machine.verifyOp (b.collectStart.setStep 1) = q at hv
  obtain ⟨o, s⟩ := p
  obtain ⟨o', t⟩ := q
  obtain ⟨ho, hst⟩ := hv
  cases ho
  cases o with
  | ok =>
    have hi := k.initOp _ _ (k.step 2 _ _ hst)
    unfold Machine.collectInit
    simp only
    generalize Machine.initOp (s.setStep 2) = p at hi
    generalize Machine.initOp (t.setStep 2) = q at hi
    obtain ⟨o, s'⟩ := p
    obtain ⟨o', t'⟩ := q
    obtain ⟨ho, hst'⟩ := hi
    cases ho
    cases o with
    | ok => exact k.collectReads allMeas _ _ hst'
    | err => exact ⟨rfl, hst'⟩
    | refused => exact ⟨rfl, hst'⟩
  | err e => cases e <;> first | exact ⟨rfl, k.step 14 _ _ hst⟩ | exact ⟨rfl, hst⟩
  | refused => exact ⟨rfl, hst⟩

/-- Every instruction ends alike on related states. -/
theorem instrOp (k : RelatedByMoves R) (i : Instr) (a b : State) (h : R a b) : Alike R (instrOp i a) (instrOp i b) := by
  by_cases hi : usesChannel i
  · rcases hi with rfl | rfl | ⟨m, hm⟩ | rfl | rfl
    · exact k.verifyOp a b h
    · exact k.initOp a b h
    · rw [instrOp_of_isRead i m a hm, instrOp_of_isRead i m b hm]
      exact k.readOp m a b h
    · exact k.closeOp a b h
    · exact k.collectOp a b h
  · exact k.pure i a b hi h

end RelatedByMoves

end Sys2Proof.Machine
end

