-- ==== Sys2Proof/Tests/Slice0.lean ====
section
/-! SUPPORT. Tests. The expected values are the spec's: the vectors V.., the programs P.. and the frames of section 1 of
spec/95_test_vectors.md, and words written out from the tables of spec/30_encoding.md. The last section gives each statement
that has hypotheses a state and operands that meet them. -/

namespace Sys2Proof.Tests

open Sys2Proof.Machine

section

set_option Elab.async false

/-! ### Ill-formed terms are refused -/

/-- R61, R78: a generic frame of command 0x08 whose sub-index selects a quantity is that quantity's frame. -/
theorem test_wellFormed_refuses_voltage : (Instr.frameRead 0x08 0x16 0x11).wellFormed = false := by decide

/-- R61, R78: the last sub-index of the table. -/
theorem test_wellFormed_refuses_reactive : (Instr.frameRead 0x08 0x16 0x08).wellFormed = false := by decide

theorem test_wellFormed_accepts_generic : (Instr.frameRead 0x08 0xFF 0xFF).wellFormed = true := by decide

/-! ### Decoding: every row's word, written out -/

theorem test_decode_crc16 : decode (.hostOp [0x00, 0x31, 0x32]) = .ok (.crc16 [0x31, 0x32]) := by decide

theorem test_decode_decode3 : decode (.hostOp [0x01, 0x01, 0x02, 0x03, 0x64]) = .ok (.decode3 0x01 0x02 0x03 100) := by decide

theorem test_decode_decode3_scale1000 : decode (.hostOp [0x01, 0x40, 0x10, 0x27, 0xE8, 0x03]) = .ok (.decode3 0x40 0x10 0x27 1000) := by decide

theorem test_decode_decode4 : decode (.hostOp [0x02, 0x12, 0x00, 0x87, 0xD6, 0xE8, 0x03]) = .ok (.decode4 0x12 0x00 0x87 0xD6 1000) := by decide

theorem test_decode_buildTest : decode (.hostOp [0x03]) = .ok .buildTest := by decide

theorem test_decode_buildInit : decode (.hostOp [0x04]) = .ok .buildInit := by decide

theorem test_decode_buildClose : decode (.hostOp [0x05]) = .ok .buildClose := by decide

theorem test_decode_buildRead : decode (.hostOp [0x06, 0x08, 0x16, 0x11]) = .ok (.buildRead 0x08 0x16 0x11) := by decide

theorem test_decode_validate : decode (.hostOp [0x07, 0x01, 0x00, 0x00, 0x88, 0x13, 0x27, 0xE9]) = .ok (.validate 1 [0x00, 0x00, 0x88, 0x13, 0x27, 0xE9]) := by decide

theorem test_decode_verify : decode (.hostOp [0x08]) = .ok .verify := by decide

theorem test_decode_init : decode (.hostOp [0x09]) = .ok .init := by decide

theorem test_decode_read : decode (.hostOp [0x0A, 0x0B]) = .ok (.read 11) := by decide

theorem test_decode_close : decode (.hostOp [0x0B]) = .ok .close := by decide

theorem test_decode_collect : decode (.hostOp [0x0C]) = .ok .collect := by decide

theorem test_decode_reservedD : decode (.hostOp [0x0D]) = .ok .reservedD := by decide

theorem test_decode_reservedE : decode (.hostOp [0x0E]) = .ok .reservedE := by decide

theorem test_decode_reservedF : decode (.hostOp [0x0F, 0x01]) = .ok .reservedF := by decide

theorem test_decode_readU : decode (.hostOp [0xA1]) = .ok .readU := by decide

theorem test_decode_readI : decode (.hostOp [0xA2]) = .ok .readI := by decide

theorem test_decode_readCosf : decode (.hostOp [0xA3]) = .ok .readCosf := by decide

theorem test_decode_readFreq : decode (.hostOp [0xA4]) = .ok .readFreq := by decide

theorem test_decode_readAngle : decode (.hostOp [0xA5]) = .ok .readAngle := by decide

theorem test_decode_readP : decode (.hostOp [0xA6]) = .ok .readP := by decide

theorem test_decode_readQ : decode (.hostOp [0xA7]) = .ok .readQ := by decide

theorem test_decode_readEReset : decode (.hostOp [0xA8]) = .ok .readEReset := by decide

theorem test_decode_readEYday : decode (.hostOp [0xA9]) = .ok .readEYday := by decide

theorem test_decode_readEToday : decode (.hostOp [0xAA]) = .ok .readEToday := by decide

theorem test_decode_frameTest : decode (.frameOut [0x00, 0x00, 0x01, 0xB0]) = .ok .frameTest := by decide

theorem test_decode_frameInit : decode (.frameOut [0x00, 0x01, 0x01, 0x01, 0x01, 0x01, 0x01, 0x01, 0x01, 0x77, 0x81]) = .ok .frameInit := by decide

theorem test_decode_frameClose : decode (.frameOut [0x00, 0x02, 0x80, 0x71]) = .ok .frameClose := by decide

theorem test_decode_frameReadU : decode (.frameOut [0x00, 0x08, 0x16, 0x11, 0x4F, 0x8A]) = .ok .frameReadU := by decide

theorem test_decode_frameReadI : decode (.frameOut [0x00, 0x08, 0x16, 0x21, 0x4F, 0x9E]) = .ok .frameReadI := by decide

theorem test_decode_frameReadCosf : decode (.frameOut [0x00, 0x08, 0x16, 0x30, 0x8F, 0x92]) = .ok .frameReadCosf := by decide

theorem test_decode_frameReadFreq : decode (.frameOut [0x00, 0x08, 0x16, 0x40, 0x8E, 0x76]) = .ok .frameReadFreq := by decide

theorem test_decode_frameReadAngle : decode (.frameOut [0x00, 0x08, 0x16, 0x51, 0x4E, 0x7A]) = .ok .frameReadAngle := by decide

theorem test_decode_frameReadP : decode (.frameOut [0x00, 0x08, 0x16, 0x00, 0x8F, 0x86]) = .ok .frameReadP := by decide

theorem test_decode_frameReadQ : decode (.frameOut [0x00, 0x08, 0x16, 0x08, 0x8E, 0x40]) = .ok .frameReadQ := by decide

theorem test_decode_frameRead : decode (.frameOut [0x00, 0x08, 0xFF, 0xFF, 0x80, 0x56]) = .ok (.frameRead 0x08 0xFF 0xFF) := by
  decide

theorem test_decode_frameReadEReset : decode (.energyOut .reset [0x00, 0x05, 0x00, 0x00, 0x10, 0x25]) = .ok .frameReadEReset := by
  decide

theorem test_decode_frameReadEYday : decode (.energyOut .yesterday [0x00, 0x05, 0x50, 0x00, 0x2C, 0x25]) = .ok .frameReadEYday := by
  decide

theorem test_decode_frameReadEToday : decode (.energyOut .today [0x00, 0x05, 0x40, 0x00, 0x21, 0xE5]) = .ok .frameReadEToday := by
  decide

theorem test_decode_vStatus : decode (.frameIn .status [0x00, 0xA3, 0x41, 0xC9]) = .ok (.vStatus 0x00 0xA3 0xC941) := by decide

theorem test_decode_vTriple :
    decode (.frameIn .triple [0x00, 0x00, 0x88, 0x13, 0x27, 0xE9]) = .ok (.vTriple 0x00 ⟨0x00, 0x88, 0x13⟩ 0xE927) := by
  decide

theorem test_decode_vTriple3 :
    decode (.frameIn .triple3 [0x00, 0x01, 0x02, 0x03, 0x00, 0xF6, 0x59, 0x00, 0x2C, 0x5A, 0x89, 0x3C]) =
      .ok (.vTriple3 0x00 ⟨0x01, 0x02, 0x03⟩ ⟨0x00, 0xF6, 0x59⟩ ⟨0x00, 0x2C, 0x5A⟩ 0x3C89) := by
  decide

theorem test_decode_vSumTriple3 :
    decode (.frameIn .sumTriple3 [0x00, 0x00, 0xE8, 0x03, 0x00, 0xB6, 0x03, 0x00, 0x84, 0x03, 0x00, 0x20, 0x03, 0x9F, 0x82]) =
      .ok (.vSumTriple3 0x00 ⟨0x00, 0xE8, 0x03⟩ ⟨0x00, 0xB6, 0x03⟩ ⟨0x00, 0x84, 0x03⟩ ⟨0x00, 0x20, 0x03⟩ 0x829F) := by
  decide

theorem test_decode_vSumQuad3 :
    decode (.frameIn .sumQuad3
        [0x00, 0x00, 0x00, 0x10, 0x27, 0x00, 0x00, 0xE8, 0x03, 0x00, 0x00, 0xB8, 0x0B, 0x00, 0x00, 0x70, 0x17, 0x5F, 0xBC]) =
      .ok (.vSumQuad3 0x00 ⟨0x00, 0x00, 0x10, 0x27⟩ ⟨0x00, 0x00, 0xE8, 0x03⟩ ⟨0x00, 0x00, 0xB8, 0x0B⟩
        ⟨0x00, 0x00, 0x70, 0x17⟩ 0xBC5F) := by
  decide

/-- R62: a select byte that is no `HOP` code and no packed `READ m`. -/
theorem test_decode_unknown_select : decode (.hostOp [0x10]) = .error (.unknownSelect 0x10) := by decide

/-- R62: `READ` without its selector. -/
theorem test_decode_missing_operand : decode (.hostOp [0x0A]) = .error .missingOperand := by decide

/-- R59: a status reply is 4 bytes. -/
theorem test_decode_bad_length : decode (.frameIn .status [0x00, 0x00, 0x01]) = .error .badFrameLength := by decide

/-- R78: length 6 and byte 1 = 0x05 is read-energy-counters by its bytes alone (V59: period 5, month 12, tariff 3). -/
theorem test_decode_energy_by_its_bytes :
    decode (.frameOut [0x00, 0x05, 0x5C, 0x03, 0x69, 0x24]) = .ok (.frameRead 0x05 0x5C 0x03) := by decide

/-! ### The operations -/

/-- The machine after reset with one operation issued and the channel's answers given. -/
def asked (w : PortWord) (answers : List (List Byte)) : State :=
  { State.reset with port := [.issue w []], chanIn := answers }

/-- What a step leaves, seen through `view`; none where it stops. -/
def stepped {α : Type} (view : State → α) (s : State) : Option α :=
  match step s with
  | .next t => some (view t)
  | .fault _ => none
  | .refused _ => none

/-- The outcome the step gives back. -/
def outcome (s : State) : Option OpResult := (stepped State.lastRet s).join

/-- A validate operation on a buffer. -/
def judged (v : Byte) (buffer : List Byte) : Option OpResult := outcome (asked (.hostOp (0x07 :: v :: buffer)) [])

/-- V6 -/
theorem test_crc16_123456789 : crc16 [0x31, 0x32, 0x33, 0x34, 0x35, 0x36, 0x37, 0x38, 0x39] = 0x4B37 := by decide +kernel

/-- V1, V15 -/
theorem test_crc16_order : crc16 [0x01, 0x02] = 0xE181 ∧ crc16 [0x02, 0x01] = 0x10C1 ∧ crc16 [] = 0xFFFF := by decide +kernel

/-- V7 -/
theorem test_crc16_op :
    (stepped (fun t => (t.lastRet, t.crc, t.rets.length)) (asked (.hostOp [0x00, 0x00, 0x00]) [])) =
      some (some (.ok (.u16 0xB001)), 0xB001, 1) := by decide +kernel

/-- V34 -/
theorem test_decode3_op :
    outcome (asked (.hostOp [0x01, 0x12, 0x34, 0x56, 0x01]) []) = some (.ok (.scaled 1201716 1)) := by decide +kernel

/-- V42 -/
theorem test_decode3_scale_zero :
    (stepped (fun t => (t.lastRet, t.rfs)) (asked (.hostOp [0x01, 0x01, 0x02, 0x03]) [])) =
      some (some (.refused .scaleZero), true) := by decide +kernel

/-- V39 -/
theorem test_decode4_op :
    outcome (asked (.hostOp [0x02, 0x12, 0x00, 0x87, 0xD6, 0xE8, 0x03]) []) = some (.ok (.scaled 1234567 1000)) := by
  decide +kernel

/-- V41 -/
theorem test_decode4_unsigned :
    outcome (asked (.hostOp [0x02, 0x00, 0x80, 0x00, 0x00, 0x01]) []) = some (.ok (.scaled 2147483648 1)) := by decide +kernel

/-- V51 -/
theorem test_buildTest :
    (stepped (fun t => (t.txBytes, t.txLen, t.crc)) { asked (.hostOp [0x03]) [] with cfgAddr := 0x59 }) =
      some ([0x59, 0x00, 0x3B, 0xE0], 4, 0xE03B) := by decide +kernel

/-- V55 -/
theorem test_buildInit :
    (stepped (fun t => (t.txLen, t.tx.read 1, t.sess)) (asked (.hostOp [0x04]) [])) = some (11, some 0x01, .closed) := by
  decide +kernel

/-- V54 -/
theorem test_buildClose :
    (stepped (fun t => (t.txBytes, t.txLen, t.crc)) { asked (.hostOp [0x05]) [] with cfgAddr := 0x59 }) =
      some ([0x59, 0x02, 0xBA, 0x21], 4, 0x21BA) := by decide +kernel

/-- V59 -/
theorem test_buildRead :
    (stepped (fun t => (t.txBytes, t.txLen, t.crc)) (asked (.hostOp [0x06, 0x05, 0x5C, 0x03]) [])) =
      some ([0x00, 0x05, 0x5C, 0x03, 0x69, 0x24], 6, 0x2469) := by decide +kernel

/-- V57 -/
theorem test_buildRead_addr :
    (stepped (fun t => t.txBytes) { asked (.hostOp [0x06, 0x08, 0x16, 0x11]) [] with cfgAddr := 0x59 }) =
      some [0x59, 0x08, 0x16, 0x11, 0x5D, 0x16] := by decide +kernel

/-- R63, section 3.4 of the vectors -/
theorem test_energyParamId : energyParamId 5 12 = 0x5C ∧ energyParamId 15 15 = 0xFF ∧ energyParamId 4 0 = 0x40 := by decide

/-- section 1 of the vectors -/
theorem test_frameTest :
    (stepped (fun t => (t.txBytes, t.crc)) (asked (.frameOut [0x00, 0x00, 0x00, 0x00]) [])) =
      some ([0x00, 0x00, 0x01, 0xB0], 0xB001) := by decide +kernel

/-- section 1 of the vectors -/
theorem test_frameClose :
    (stepped (fun t => (t.txBytes, t.crc)) (asked (.frameOut [0x00, 0x02, 0x00, 0x00]) [])) =
      some ([0x00, 0x02, 0x80, 0x71], 0x7180) := by decide +kernel

/-- V58 -/
theorem test_frameRead :
    (stepped (fun t => (t.txBytes, t.crc)) (asked (.frameOut [0x00, 0x08, 0xFF, 0xFF, 0x00, 0x00]) [])) =
      some ([0x00, 0x08, 0xFF, 0xFF, 0x80, 0x56], 0x5680) := by decide +kernel

/-- R104 -/
theorem test_frameInit :
    (stepped (fun t => (t.txLen, t.tx.read 1)) (asked (.frameOut [0, 0x01, 0, 0, 0, 0, 0, 0, 0, 0, 0]) [])) =
      some (11, some 0x01) := by decide +kernel

/-- R61 -/
theorem test_frameReadU :
    (stepped (fun t => (t.txLen, t.tx.read 1, t.tx.read 3)) (asked (encode .frameReadU) [])) =
      some (6, some 0x08, some 0x11) := by decide +kernel

/-- R61 -/
theorem test_frameReadI :
    (stepped (fun t => (t.txLen, t.tx.read 1, t.tx.read 3)) (asked (encode .frameReadI) [])) =
      some (6, some 0x08, some 0x21) := by decide +kernel

/-- R61 -/
theorem test_frameReadCosf :
    (stepped (fun t => (t.txLen, t.tx.read 1, t.tx.read 3)) (asked (encode .frameReadCosf) [])) =
      some (6, some 0x08, some 0x30) := by decide +kernel

/-- R61 -/
theorem test_frameReadFreq :
    (stepped (fun t => (t.txLen, t.tx.read 1, t.tx.read 3)) (asked (encode .frameReadFreq) [])) =
      some (6, some 0x08, some 0x40) := by decide +kernel

/-- R61 -/
theorem test_frameReadAngle :
    (stepped (fun t => (t.txLen, t.tx.read 1, t.tx.read 3)) (asked (encode .frameReadAngle) [])) =
      some (6, some 0x08, some 0x51) := by decide +kernel

/-- R61 -/
theorem test_frameReadP :
    (stepped (fun t => (t.txLen, t.tx.read 1, t.tx.read 3)) (asked (encode .frameReadP) [])) =
      some (6, some 0x08, some 0x00) := by decide +kernel

/-- R61 -/
theorem test_frameReadQ :
    (stepped (fun t => (t.txLen, t.tx.read 1, t.tx.read 3)) (asked (encode .frameReadQ) [])) =
      some (6, some 0x08, some 0x08) := by decide +kernel

/-- R60, R114 -/
theorem test_frameReadEReset :
    (stepped (fun t => (t.txLen, t.tx.read 1)) (asked (encode .frameReadEReset) [])) = some (6, some 0x05) := by decide +kernel

/-- R60, R114 -/
theorem test_frameReadEYday :
    (stepped (fun t => (t.txLen, t.tx.read 1)) (asked (encode .frameReadEYday) [])) = some (6, some 0x05) := by decide +kernel

/-- R60, R114 -/
theorem test_frameReadEToday :
    (stepped (fun t => (t.txLen, t.tx.read 1)) (asked (encode .frameReadEToday) [])) = some (6, some 0x05) := by decide +kernel

/-- V71, V75, V78, V80, V83, V84: a status reply. -/
theorem test_validate_status :
    judged 0 [] = some (.err .wrongResultSize) ∧
      judged 0 [0x00, 0x00, 0x01, 0xB1] = some (.err .wrongCrc) ∧
      judged 0 [0x00, 0xF0, 0x01, 0xF4] = some (.ok (.response (.status 0))) ∧
      judged 0 [0x00, 0xA3, 0x41, 0xC9] = some (.err (.protocolError 3)) ∧
      judged 0 [0x00, 0xFF, 0x41, 0xF0] = some (.err (.protocolError 15)) ∧
      judged 0 [0x00, 0x03, 0x41, 0xB0] = some (.err .wrongCrc) := by
  decide +kernel

/-- V72, V91, V92: size before CRC; CRC; the variant code. -/
theorem test_validate_others :
    judged 2 [0x00, 0x00, 0x88, 0x13, 0x27, 0xE9] = some (.err .wrongResultSize) ∧
      judged 4 (List.replicate 19 0) = some (.err .wrongCrc) ∧
      judged 5 [0x00, 0x00, 0x01, 0xB0] = some (.refused .badOperand) := by
  decide +kernel

/-- V85: the address byte of a reply is compared with nothing. -/
theorem test_vStatus : outcome (asked (encode (.vStatus 0x59 0x00 0xE03B)) []) = some (.ok (.response (.status 0))) := by
  decide +kernel

/-- V79. -/
theorem test_vStatus_code : outcome (asked (encode (.vStatus 0x00 0x83 0x1140)) []) = some (.err (.protocolError 3)) := by
  decide +kernel

/-- V21, V22. -/
theorem test_vTriple :
    outcome (asked (encode (.vTriple 0x00 ⟨0x00, 0x88, 0x13⟩ 0xE927)) []) =
        some (.ok (.response (.triple ⟨0x00, 0x88, 0x13⟩))) ∧
      outcome (asked (encode (.vTriple 0x00 ⟨0x00, 0x88, 0x13⟩ 0x27E9)) []) = some (.err .wrongCrc) := by
  decide +kernel

/-- V86. -/
theorem test_vTriple3 :
    outcome (asked (.frameIn .triple3 [0x00, 0x01, 0x02, 0x03, 0x00, 0xF6, 0x59, 0x00, 0x2C, 0x5A, 0x89, 0x3C]) []) =
      some (.ok (.response (.triple3 ⟨0x01, 0x02, 0x03⟩ ⟨0x00, 0xF6, 0x59⟩ ⟨0x00, 0x2C, 0x5A⟩))) := by
  decide +kernel

/-- V87. -/
theorem test_vSumTriple3 :
    outcome (asked (.frameIn .sumTriple3 [0x00, 0x00, 0xE8, 0x03, 0x00, 0xB6, 0x03, 0x00, 0x84, 0x03, 0x00, 0x20, 0x03, 0x9F, 0x82]) []) =
      some (.ok (.response
        (.sumTriple3 ⟨0x00, 0xE8, 0x03⟩ ⟨0x00, 0xB6, 0x03⟩ ⟨0x00, 0x84, 0x03⟩ ⟨0x00, 0x20, 0x03⟩))) := by
  decide +kernel

/-- V88. -/
theorem test_vSumQuad3 :
    outcome (asked (.frameIn .sumQuad3
        [0x00, 0x00, 0x00, 0x10, 0x27, 0x00, 0x00, 0xE8, 0x03, 0x00, 0x00, 0xB8, 0x0B, 0x00, 0x00, 0x70, 0x17, 0x5F, 0xBC]) []) =
      some (.ok (.response (.sumQuad3 ⟨0x00, 0x00, 0x10, 0x27⟩ ⟨0x00, 0x00, 0xE8, 0x03⟩ ⟨0x00, 0x00, 0xB8, 0x0B⟩
        ⟨0x00, 0x00, 0x70, 0x17⟩))) := by
  decide +kernel

/-! #### The replies of section 1 of the vectors -/

/-- A status reply of code 0 -/
def oks : List Byte := [0x00, 0x00, 0x01, 0xB0]

/-- The reply to `READ m` -/
def replyTo : Meas → List Byte
  | .u => [0x00, 0x01, 0x02, 0x03, 0x00, 0xF6, 0x59, 0x00, 0x2C, 0x5A, 0x89, 0x3C]
  | .i => [0x00, 0x00, 0xDC, 0x05, 0x00, 0xB8, 0x0B, 0x00, 0x00, 0x00, 0x8A, 0x31]
  | .cosf => [0x00, 0x00, 0xE8, 0x03, 0x00, 0xB6, 0x03, 0x00, 0x84, 0x03, 0x00, 0x20, 0x03, 0x9F, 0x82]
  | .freq => [0x00, 0x00, 0x88, 0x13, 0x27, 0xE9]
  | .angle => [0x00, 0x00, 0xE0, 0x2E, 0x00, 0xC0, 0x5D, 0x00, 0xE0, 0x2E, 0x6A, 0x2C]
  | .p => [0x00, 0x01, 0x40, 0x0D, 0x00, 0x40, 0x9C, 0x00, 0x80, 0x38, 0x00, 0x80, 0x38, 0x0E, 0x86]
  | .q => [0x00, 0x40, 0x10, 0x27, 0x00, 0x88, 0x13, 0x00, 0x88, 0x13, 0x00, 0x00, 0x00, 0x29, 0x38]
  | .eReset => [0x00, 0x01, 0x02, 0x03, 0x04, 0x12, 0x00, 0x87, 0xD6, 0x00, 0x00, 0x00, 0x00, 0xFF, 0xFF, 0xFF, 0xFF, 0x07, 0x9D]
  | .eYday => [0x00, 0x00, 0x00, 0x10, 0x27, 0x00, 0x00, 0xE8, 0x03, 0x00, 0x00, 0xB8, 0x0B, 0x00, 0x00, 0x70, 0x17, 0x5F, 0xBC]
  | .eToday => [0x00, 0x00, 0x00, 0xDC, 0x05, 0x00, 0x00, 0xF4, 0x01, 0x00, 0x00, 0xF4, 0x01, 0x00, 0x00, 0xF4, 0x01, 0x47, 0x5B]

/-- V89: the voltage reply with one bit flipped -/
def corrupted : List Byte := [0x00, 0x01, 0x02, 0x03, 0x01, 0xF6, 0x59, 0x00, 0x2C, 0x5A, 0x89, 0x3C]

/-- The same machine in another session state. -/
def inSession (x : Session) (s : State) : State := { s with sess := x }

/-- What the tests of the transport operations look at. -/
def flags (t : State) : Option OpResult × Session × BitVec 3 × BitVec 4 × Nat := (t.lastRet, t.sess, t.err, t.status, t.rxLen)

/-- V93, V108 -/
theorem test_verify_ok :
    stepped flags { asked (.hostOp [0x08]) [oks] with err := 2 } =
      some (some (.ok .done), .channelVerified, 0, 0, 4) := by decide +kernel

/-- V94 -/
theorem test_verify_silence :
    stepped flags (asked (.hostOp [0x08]) [[]]) =
      some (some (.err .channelTimeout), .closed, 4, 0, 0) := by decide +kernel

/-- V97 -/
theorem test_init_ok :
    stepped flags (inSession .channelVerified (asked (.hostOp [0x09]) [oks])) =
      some (some (.ok .done), .initialized, 0, 0, 4) := by decide +kernel

/-- V99, V109 -/
theorem test_init_refused :
    stepped flags { asked (.hostOp [0x09]) [] with err := 2 } =
      some (some (.refused .badSequence), .closed, 2, 0, 0) := by decide +kernel

/-- V106 -/
theorem test_close_fails :
    stepped flags (inSession .reading (asked (.hostOp [0x0B]) [[0x00, 0x05, 0xC1, 0xB3]])) =
      some (some (.err (.protocolError 5)), .closed, 3, 5, 4) := by decide +kernel

/-- V96 -/
theorem test_close_from_closed :
    stepped flags (asked (.hostOp [0x0B]) [oks]) =
      some (some (.ok .done), .closed, 0, 0, 4) := by decide +kernel

/-- V103 -/
theorem test_read_status_answer :
    stepped flags (inSession .initialized (asked (.hostOp [0x0A, 0x01]) [[0x00, 0x03, 0x41, 0xB1]])) =
      some (some (.err .wrongResultSize), .closed, 1, 0, 4) := by decide +kernel

/-- V104 -/
theorem test_read_bad_operand :
    stepped flags (inSession .initialized (asked (.hostOp [0x0A, 0x0B]) [])) =
      some (some (.refused .badOperand), .initialized, 0, 0, 0) := by decide +kernel

/-- V102 -/
theorem test_readU_wrong_crc :
    stepped (fun t => (t.lastRet, t.err, t.crc, t.res.toList.take 4))
      { inSession .reading (asked (.hostOp [0xA1]) [corrupted]) with res := Vector.replicate 34 7 } =
      some (some (.err .wrongCrc), 2, 0xED88, [7, 7, 7, 7]) := by decide +kernel

/-- `READ m` in `Initialized` on the reply of section 1: the registers of its group and the one after it (34 of them filled with
7 before), and the session. -/
def delivered (i : Instr) (m : Meas) : Option (List U32 × Session) :=
  stepped (fun t => ((t.res.toList.drop (measDest m)).take (measCount m + 1), t.sess))
    { inSession .initialized (asked (encode i) [replyTo m]) with res := Vector.replicate 34 7 }

/-- P5: `RES[0]` and on -/
theorem test_readU : delivered .readU .u = some ([66306, 23030, 23084, 7], .reading) := by decide +kernel

/-- P5: `RES[3]` and on -/
theorem test_readI : delivered .readI .i = some ([1500, 3000, 0, 7], .reading) := by decide +kernel

/-- P5: `RES[6]` and on -/
theorem test_readCosf : delivered .readCosf .cosf = some ([1000, 950, 900, 800, 7], .reading) := by decide +kernel

/-- P5: `RES[10]` and on -/
theorem test_readFreq : delivered .readFreq .freq = some ([5000, 7], .reading) := by decide +kernel

/-- P5: `RES[11]` and on -/
theorem test_readAngle : delivered .readAngle .angle = some ([12000, 24000, 12000, 7], .reading) := by decide +kernel

/-- P5: `RES[14]` and on -/
theorem test_readP : delivered .readP .p = some ([68928, 40000, 14464, 14464, 7], .reading) := by decide +kernel

/-- P5: `RES[18]` and on -/
theorem test_readQ : delivered .readQ .q = some ([4204304, 5000, 5000, 0, 7], .reading) := by decide +kernel

/-- P5: `RES[22]` and on -/
theorem test_readEReset :
    delivered .readEReset .eReset = some ([33620995, 1234567, 0, 4294967295, 7], .reading) := by decide +kernel

/-- P5: `RES[26]` and on -/
theorem test_readEYday : delivered .readEYday .eYday = some ([10000, 1000, 3000, 6000, 7], .reading) := by decide +kernel

/-- P5: `RES[30]` and on -/
theorem test_readEToday : delivered .readEToday .eToday = some ([1500, 500, 500, 500], .reading) := by decide +kernel

/-- V100 -/
theorem test_read4 : delivered (.read 4) .freq = some ([5000, 7], .reading) := by decide +kernel

/-- P10: the echo of a read of the frequency -/
theorem test_read_echo :
    stepped (fun t => (t.lastRet, t.res[10], t.sess)) (inSession .initialized (asked (.hostOp [0xA4])
      [[0x00, 0x08, 0x16, 0x40, 0x8E, 0x76]])) = some (some (.ok .done), 540694, .reading) := by decide +kernel

/-- `COLLECT` on a script of answers: the outcome, `STEP`, `ERR`, `STATUS`, `SESS` and how many reads were made. -/
def collected (answers : List (List Byte)) : Option (Option OpResult × BitVec 4 × BitVec 3 × BitVec 4 × Session × Nat) :=
  stepped (fun t => (t.lastRet, t.step, t.err, t.status, t.sess, t.reads)) (asked (.hostOp [0x0C]) answers)

/-- P5's thirteen answers, the last one given -/
def fullScript (last : List Byte) : List (List Byte) := oks :: oks :: (allMeas.map replyTo ++ [last])

/-- V120, P2 -/
theorem test_collect_silence : collected [[]] = some (some (.ok .allZero), 14, 4, 0, .closed, 1) := by decide +kernel

/-- V121 -/
theorem test_collect_verify_fails :
    collected [[0x00, 0x00, 0x01, 0xB1]] = some (some (.err .wrongCrc), 1, 2, 0, .closed, 1) := by decide +kernel

/-- V122 -/
theorem test_collect_init_fails :
    collected [oks, [0x00, 0x03, 0x41, 0xB1]] = some (some (.err (.protocolError 3)), 2, 3, 3, .closed, 2) := by decide +kernel

/-- V123, P3 -/
theorem test_collect_read_corrupted :
    collected [oks, oks, corrupted] = some (some (.err .wrongCrc), 3, 2, 0, .closed, 3) := by decide +kernel

/-- V124, P6 -/
theorem test_collect_link_lost :
    collected [oks, oks, replyTo .u, replyTo .i, replyTo .cosf, []] =
      some (some (.err .midSessionTimeout), 6, 5, 0, .closed, 6) := by decide +kernel

/-- V125, P5 -/
theorem test_collect_complete :
    collected (fullScript oks) = some (some (.ok .complete), 14, 0, 0, .closed, 13) := by decide +kernel

/-- P5: the thirty-four result registers. -/
theorem test_collect_results :
    stepped (fun t => (t.res.toList, t.crc, t.txBytes)) (asked (.hostOp [0x0C]) (fullScript oks)) =
      some ([66306, 23030, 23084, 1500, 3000, 0, 1000, 950, 900,
        800, 5000, 12000, 24000, 12000, 68928, 40000, 14464, 14464, 4204304,
        5000, 5000, 0, 33620995, 1234567, 0, 4294967295, 10000, 1000, 3000, 6000, 1500, 500, 500, 500],
        0xB001, [0x00, 0x02, 0x80, 0x71]) := by
  decide +kernel

/-- V126, P9 -/
theorem test_collect_close_fails :
    collected (fullScript [0x00, 0x0B, 0x40, 0x77]) =
      some (some (.err (.protocolError 11)), 13, 3, 11, .closed, 13) := by decide +kernel

/-- V127 -/
theorem test_collect_silence_after_verify :
    collected [oks, []] = some (some (.err .midSessionTimeout), 2, 5, 0, .closed, 2) := by decide +kernel

/-- R72, P7 -/
theorem test_reserved :
    outcome (asked (.hostOp [0x0D]) []) = some (.refused .reservedOp) ∧
      outcome (asked (.hostOp [0x0E]) []) = some (.refused .reservedOp) ∧
      outcome (asked (.hostOp [0x0F]) []) = some (.refused .reservedOp) := by decide +kernel

/-! ### The host port -/

/-- R28: an operation tried while another runs is refused, and the one in progress is not disturbed. -/
theorem test_attempt_refused :
    stepped (fun t => (t.rets, t.rfs, t.sess, t.busy))
        { asked (.hostOp [0x08]) [oks] with port := [.issue (.hostOp [0x08]) [.issue (.hostOp [0x0C]), .writeAddr 9]] } =
      some ([.refused .busy, .refused .busy, .ok .done], true, .channelVerified, false) := by
  decide +kernel

/-- R33: a read of `CRC` after reset returns some value and is a fault of the host program. -/
theorem test_read_unwritten_crc :
    stepped (fun t => (t.rets.length, t.hostFaults)) { State.reset with port := [.readReg .crc] } = some (1, [.crc]) := by
  decide +kernel

/-- Log 22: a read of `PHASE` while an operation runs returns a phase's name. -/
theorem test_attempt_read_phase :
    stepped (fun t => (t.rets.head?.any fun x => x matches .ok (.phaseIs _), t.hostFaults))
        { State.reset with port := [.issue (.hostOp [0x03]) [.readReg .phase]] } =
      some (true, []) := by
  decide +kernel

/-- R29, R20: `SESS` reads as its code. -/
theorem test_read_sess :
    outcome { State.reset with port := [.readReg .sess], sess := .reading } = some (.ok (.word 3)) := by decide +kernel

/-- R185: reset after 2 bytes of the first write: two bytes are out, nothing was read, the registers are reset. -/
theorem test_reset_mid_write :
    stepped (fun t => (t.chanLog, t.reads, t.sess, t.txLen))
        { State.reset with port := [.issueThenReset (.hostOp [0x08]) [] 0 2], chanIn := [oks] } =
      some ([.write [0x00, 0x00], .reset], 0, .closed, 0) := by
  decide +kernel

/-- R28, R185, log 18: what is attempted before the reset has its outcome, the abandoned operation has none, and a write that has
not begun shows nowhere. -/
theorem test_reset_before_write :
    stepped (fun t => (t.chanLog, t.trace, t.rets, t.rfs))
        { State.reset with
          cfgDump := true, port := [.issueThenReset (.hostOp [0x08]) [.issue (.hostOp [0x0C])] 0 0], chanIn := [oks] } =
      some ([.reset], [], [.refused .busy], false) := by
  decide +kernel

/-- R146: the frame dump shows the frame written and the bytes read. -/
theorem test_dump :
    stepped State.trace { asked (.hostOp [0x08]) [oks] with cfgDump := true } =
      some [[0x00, 0x00, 0x01, 0xB0], [0x00, 0x00, 0x01, 0xB0]] := by
  decide +kernel

/-- The machine is idle while the host does nothing. -/
theorem test_idle : step State.reset = .next State.reset := rfl

/-! ### Every statement's hypotheses are met -/

theorem witness_Crc16CompletesWithChecksum :
    State.reset.busy = false ∧ (List.replicate 32 (0xFF : Byte)).length ≤ Config.portMax :=
  ⟨rfl, Nat.le_add_right 32 _⟩

theorem witness_SingleBitFlipFailsCrcCheck :
    (frameOf []).length = 2 ∧ 1 < (frameOf []).length ∧ 7 < 8 ∧ crcOk (flipBit (frameOf []) 1 7) = false := by
  decide +kernel

theorem witness_Decode3ReturnsExactPair : State.reset.busy = false ∧ (1 : Nat) ≠ 0 ∧ (0 : Nat) = 0 := by decide

theorem witness_Decode4ReturnsExactPair : State.reset.busy = false ∧ (1 : Nat) ≠ 0 ∧ (0 : Nat) = 0 := by decide

theorem witness_DecodersLoseNoBit :
    tripleRaw ⟨1, 2, 3⟩ = tripleRaw ⟨1, 2, 3⟩ ∧ quadRaw ⟨1, 2, 3, 4⟩ = quadRaw ⟨1, 2, 3, 4⟩ ∧
      tripleRaw ⟨1, 2, 3⟩ ≠ tripleRaw ⟨1, 3, 2⟩ := by
  decide

theorem witness_ScaledValueIsExactQuotient : (100 : Nat) ≠ 0 := by decide

/-- The registers at the ends of the groups whose scales differ from their neighbours'. -/
theorem witness_ResultScalesFollowTheMeasurement :
    (measDest .u ≤ 2 ∧ 2 < measDest .u + measCount .u) ∧ (measDest .i ≤ 3 ∧ 3 < measDest .i + measCount .i) ∧
      (measDest .cosf ≤ 9 ∧ 9 < measDest .cosf + measCount .cosf) ∧
      (measDest .freq ≤ 10 ∧ 10 < measDest .freq + measCount .freq) ∧
      (measDest .angle ≤ 13 ∧ 13 < measDest .angle + measCount .angle) ∧
      (measDest .p ≤ 14 ∧ 14 < measDest .p + measCount .p) ∧
      (measDest .eToday ≤ 33 ∧ 33 < measDest .eToday + measCount .eToday) := by
  decide

theorem witness_BuildersLeaveTheirFrame : State.reset.busy = false := rfl

theorem witness_BuiltFramesHaveFixedLengths : State.reset.busy = false := rfl

theorem witness_FrameWordsBuildTheirFrames :
    State.reset.busy = false ∧ encode (.frameRead 1 2 3) = .frameOut [0, 1, 2, 3, 0, 0] ∧
      builderPayload (.frameRead 1 2 3) = some [1, 2, 3] ∧
      encode .frameReadEToday = .energyOut .today [0, 0x05, 0, 0, 0, 0] ∧
      (builderPayload .frameReadEToday).isSome = true := by
  decide

theorem witness_BuiltFrameDecodesAsItself :
    State.reset.busy = false ∧ (Instr.frameRead 0x08 0xFF 0xFF).wellFormed = true ∧
      encode (.frameRead 0x08 0xFF 0xFF) = .frameOut [0, 0x08, 0xFF, 0xFF, 0, 0] ∧
      Instr.frameReadEYday.wellFormed = true ∧
      encode .frameReadEYday = .energyOut .yesterday [0, 0x05, 0, 0, 0, 0] := by
  decide

/-- The longest buffer, the empty one, and one of the right size. -/
theorem witness_ValidateJudgesByTheRules :
    State.reset.busy = false ∧ (List.replicate 32 (0 : Byte)).length ≤ 32 ∧ ([] : List Byte).length ≤ 32 ∧
      oks.length = variantSize .status := by
  decide

/-- Each outcome of a status reply's word. -/
theorem witness_StatusReplyUsesLowNibbleOnly :
    State.reset.busy = false ∧ crc16 [0x00, 0xF0] = 0xF401 ∧ (0xF0 : Byte).toNat % 16 = 0 ∧
      crc16 [0x00, 0x0F] = 0xB441 ∧ (0x0F : Byte).toNat % 16 = 15 ∧ crc16 [0x00, 0x03] ≠ 0xB041 := by
  decide +kernel

/-- Both outcomes of another reply's word. -/
theorem witness_ReplyWordsReturnTheirFields :
    State.reset.busy = false ∧ crc16 [0x00, 0x00, 0x88, 0x13] = 0xE927 ∧ crc16 [0x00, 0x00, 0x88, 0x13] ≠ 0x27E9 := by
  decide +kernel

theorem witness_ReplyAddressIsNotCompared :
    State.reset.busy = false ∧ (0x59 : Byte) ≠ State.reset.cfgAddr := by decide

/-- The machine in a session state with the channel's next answer given. -/
def answered (x : Session) (b : List Byte) : State := { State.reset with sess := x, chanIn := [b] }

/-- A reply that passes, silence, a short reply, a bad CRC and a status code. -/
theorem witness_VerifyCompletes :
    (answered .closed oks).busy = false ∧
      replyError .status .channelTimeout (answered .closed oks).chanReply = none ∧
      replyError .status .channelTimeout (answered .closed []).chanReply = some .channelTimeout ∧
      replyError .status .channelTimeout (answered .closed [0, 0, 1]).chanReply = some .wrongResultSize ∧
      replyError .status .channelTimeout (answered .closed [0x00, 0x00, 0x01, 0xB1]).chanReply = some .wrongCrc ∧
      replyError .status .channelTimeout (answered .closed [0x00, 0x0F, 0x41, 0xB4]).chanReply =
        some (.protocolError 15) := by
  decide +kernel

theorem witness_InitCompletes :
    (answered .channelVerified oks).busy = false ∧ (answered .channelVerified oks).sess = .channelVerified ∧
      replyError .status .midSessionTimeout (answered .channelVerified oks).chanReply = none ∧
      replyError .status .midSessionTimeout (answered .channelVerified []).chanReply = some .midSessionTimeout ∧
      (answered .initialized oks).sess ≠ .channelVerified := by
  decide +kernel

/-- `READ` in both spellings, from both states, on a reply of each shape. -/
theorem witness_ReadDeliversItsGroup :
    isRead .readEToday .eToday ∧ isRead (.read 10) .eToday ∧ isRead (.read 1) .u ∧
      (answered .initialized (replyTo .u)).busy = false ∧ (answered .initialized (replyTo .u)).sess = .initialized ∧
      (answered .reading (replyTo .u)).sess = .reading ∧
      ∀ m ∈ allMeas,
        replyError (measVariant m) .midSessionTimeout (answered .reading (replyTo m)).chanReply = none := by
  refine ⟨.inl (by decide), .inr (by decide), .inr (by decide), ?_⟩
  decide +kernel

theorem witness_FailedReadWritesNoResult :
    isRead .readU .u ∧ (answered .initialized corrupted).busy = false ∧
      (answered .initialized corrupted).sess = .initialized ∧
      replyError (measVariant .u) .midSessionTimeout (answered .initialized corrupted).chanReply = some .wrongCrc ∧
      ¬((answered .channelVerified corrupted).sess = .initialized ∨ (answered .channelVerified corrupted).sess = .reading) := by
  refine ⟨.inl (by decide), ?_⟩
  decide +kernel

theorem witness_CloseCompletes :
    (answered .reading oks).busy = false ∧
      replyError .status .midSessionTimeout (answered .reading oks).chanReply = none ∧
      replyError .status .midSessionTimeout (answered .reading []).chanReply = some .midSessionTimeout := by
  decide +kernel

/-- Each row of the table with an outcome of each kind that it can have. -/
theorem witness_SessionMovesOnlyByTheTable :
    (∃ t, (answered .closed oks).busy = false ∧ exec .verify (answered .closed oks) = .next t ∧
      t.lastRet = some (.ok .done)) ∧
    (∃ t, exec .init (answered .channelVerified oks) = .next t ∧ t.lastRet = some (.ok .done)) ∧
    (∃ t, exec .readU (answered .reading (replyTo .u)) = .next t ∧ t.lastRet = some (.ok .done)) ∧
    (∃ t, exec .close (answered .reading oks) = .next t ∧ t.lastRet = some (.ok .done)) ∧
    (∃ t, exec .collect { State.reset with chanIn := fullScript oks } = .next t ∧ t.lastRet = some (.ok .complete)) ∧
    (∃ t, exec .readU (answered .reading []) = .next t ∧ t.lastRet = some (.err .midSessionTimeout)) ∧
    (∃ t, exec .init (answered .reading []) = .next t ∧ t.lastRet = some (.refused .badSequence)) ∧
    ∃ t, exec .buildClose (answered .reading []) = .next t := by
  and_intros
  all_goals first
    | exact ⟨_, rfl⟩
    | exact ⟨_, rfl, by decide +kernel⟩
    | exact ⟨_, rfl, rfl, by decide +kernel⟩

theorem witness_VerifyAndCloseAreIdempotent :
    (answered .closed oks).busy = false ∧ (answered .reading oks).busy = false ∧
      (answered .closed oks).cfgAddr = (answered .reading oks).cfgAddr ∧
      (answered .closed oks).chanReply = (answered .reading oks).chanReply := by
  decide +kernel

/-- The echo of each command that is not the parameters' own. -/
theorem witness_EchoIsNotDetected :
    (answered .closed (frameOf [0x00, 0x00])).chanReply = frameOf [0x00, 0x00] ∧
      (answered .closed (frameOf [0x00, 0x02])).chanReply = frameOf [0x00, 0x02] ∧
      (answered .channelVerified (frameOf (0x00 :: initPayload))).chanReply = frameOf (0x00 :: initPayload) ∧
      (answered .channelVerified (frameOf (0x00 :: initPayload))).sess = .channelVerified ∧
      isRead .readFreq .freq ∧ (answered .initialized (frameOf (0x00 :: measPayload .freq))).sess = .initialized ∧
      (answered .initialized (frameOf (0x00 :: measPayload .freq))).chanReply = frameOf (0x00 :: measPayload .freq) :=
  ⟨by decide +kernel, by decide +kernel, rfl, rfl, .inl (by decide), rfl, rfl⟩

/-- An operation that uses the channel returns an error. -/
theorem witness_ErrorsAbortTheSession :
    ∃ t, (answered .reading []).busy = false ∧ exec .verify (answered .reading []) = .next t ∧
      t.lastRet = some (.err .channelTimeout) :=
  ⟨_, rfl, rfl, by decide +kernel⟩

/-- One outcome of each kind. -/
theorem witness_ErrorFlagsArePerOperation :
    (∃ t, exec .close (answered .closed oks) = .next t ∧ t.lastRet = some (.ok .done)) ∧
      (∃ t, exec .close (answered .closed []) = .next t ∧ t.lastRet = some (.err .midSessionTimeout)) ∧
      ∃ t, exec .init (answered .closed []) = .next t ∧ t.lastRet = some (.refused .badSequence) :=
  ⟨⟨_, rfl, by decide +kernel⟩, ⟨_, rfl, by decide +kernel⟩, ⟨_, rfl, by decide +kernel⟩⟩

theorem witness_RefusalWritesOnlyRfs :
    ∃ t, exec .reservedD State.reset = .next t ∧ t.lastRet = some (.refused .reservedOp) :=
  ⟨_, rfl, by decide +kernel⟩

/-- The operands next to each domain. -/
theorem witness_ReservedAndBadOperandsAreRefused :
    State.reset.busy = false ∧ 4 < (5 : Byte).toNat ∧ 32 < (List.replicate 33 (0 : Byte)).length ∧ (0 : Byte).toNat = 0 ∧
      10 < (11 : Byte).toNat ∧ Config.portMax < (List.replicate (Config.portMax + 1) (0 : Byte)).length :=
  ⟨rfl, by decide, by decide, rfl, by decide, by simp⟩

theorem witness_BusyRefusesEveryOperation : (State.reset.setBusy true).busy = true := rfl

/-- `RFS` set and an operation that completes; the two actions that reset. -/
theorem witness_RfsIsStickyUntilReset :
    (∃ t, { asked (.hostOp [0x03]) [] with rfs := true }.rfs = true ∧
      step { asked (.hostOp [0x03]) [] with rfs := true } = .next t) ∧
    (∃ t, step { State.reset with rfs := true, port := [.reset] } = .next t ∧ t.rfs = false) ∧
    ∃ t, step { State.reset with rfs := true, port := [.issueThenReset (.hostOp [0x03]) [] 0 0] } = .next t ∧
      t.rfs = false :=
  ⟨⟨_, rfl, rfl⟩, ⟨_, rfl, rfl⟩, ⟨_, rfl, rfl⟩⟩

/-- An instruction under each clause of the frame: a builder, a validate operation, one that touches neither buffer. -/
theorem witness_InstructionsTouchOnlyTheirRegisters :
    (∃ t, exec .buildTest State.reset = .next t) ∧
      (∃ t, exec (.validate 0 oks) State.reset = .next t ∧ builderPayload (.validate 0 oks) = none) ∧
      (∃ t, exec (.crc16 [0]) State.reset = .next t ∧ builderPayload (.crc16 [0]) = none) ∧
      (∃ t, exec .readU (answered .initialized (replyTo .u)) = .next t) ∧ ∃ t, exec .collect State.reset = .next t :=
  ⟨⟨_, rfl⟩, ⟨_, rfl, rfl⟩, ⟨_, rfl, rfl⟩, ⟨_, rfl⟩, ⟨_, rfl⟩⟩

theorem witness_CollectEqualsHostProgram : State.reset.busy = false := rfl

theorem witness_CollectSendsAPrefixOfTheSequence : State.reset.busy = false := rfl

/-- The first reply empty, and not empty. -/
theorem witness_CollectDegradedReturn :
    State.reset.busy = false ∧ (answered .closed []).chanReply = [] ∧ (answered .closed oks).chanReply ≠ [] := by
  decide +kernel

theorem witness_CollectCompletesWithAllReadings :
    (answered .closed oks).busy = false ∧
      { State.reset with chanIn := fullScript oks }.chanIn = oks :: oks :: (allMeas.map replyTo ++ oks :: []) ∧
      replyError .status .channelTimeout oks = none ∧ replyError .status .midSessionTimeout oks = none ∧
      ∀ m, replyError (measVariant m) .midSessionTimeout (replyTo m) = none := by
  refine ⟨rfl, rfl, by decide +kernel, by decide +kernel, fun m => ?_⟩
  cases m <;> decide +kernel

/-- `COLLECT` returns an error at the first step, and at the last. -/
theorem witness_CollectFailureLeavesLaterGroupsZero :
    (∃ t, exec .collect { State.reset with chanIn := [corrupted] } = .next t ∧
      t.lastRet = some (.err .wrongResultSize) ∧ t.step = 1) ∧
    ∃ t, exec .collect { State.reset with chanIn := fullScript [] } = .next t ∧
      t.lastRet = some (.err .midSessionTimeout) ∧ t.step = 13 :=
  ⟨⟨_, rfl, by decide +kernel, by decide +kernel⟩, ⟨_, rfl, by decide +kernel, by decide +kernel⟩⟩

theorem witness_CollectOutcomes : (State.reset.setBusy true).busy = true ∧ State.reset.busy = false := ⟨rfl, rfl⟩

/-- Of the three kinds of configuration write. -/
theorem witness_ConfigurationWritesOnlyWhenIdle :
    { State.reset with port := [.writeAddr 9] }.port = .writeAddr 9 :: [] ∧
      { State.reset with port := [.writeDump true] }.port = .writeDump true :: [] ∧ State.reset.busy = false ∧
      { State.reset with port := [.writeAddr 9], busy := true }.busy = true :=
  ⟨rfl, rfl, rfl, rfl⟩

/-- The first reads that are faults of the host program, the last one, and one that is none. -/
theorem witness_FaultsAreReadsOfUnspecifiedBytes :
    { State.reset with port := [.readReg (.tx 0)] }.Inv ∧
      stepped State.hostFaults { State.reset with port := [.readReg .crc] } = some [.crc] ∧
      stepped State.hostFaults { State.reset with port := [.readReg (.tx 0)] } = some [.tx 0] ∧
      stepped State.hostFaults { State.reset with port := [.readReg (.rx 31)] } = some [.rx 31] ∧
      stepped State.hostFaults { State.reset with rx := Memory.ofBytes [7], rxLen := 1, port := [.readReg (.rx 0)] } =
        some [] := by
  refine ⟨?_, by decide +kernel, by decide +kernel, by decide +kernel, by decide +kernel⟩
  constructor <;> first | decide | rfl

/-- A state that holds a value in every register, both buffers full. -/
def full : State :=
  { State.reset with
    crcWritten := true, tx := Memory.ofBytes (List.replicate 11 7), txLen := 11,
    rx := Memory.ofBytes (List.replicate 32 9), rxLen := 32, port := [.readReg (.res 33)] }

/-- The last byte of each buffer has a value, and so have `CRC` and the last result register. -/
theorem witness_HostReadsReturnTheRegister :
    full.busy = false ∧ full.port = .readReg (.res 33) :: [] ∧ full.crcWritten = true ∧
      10 < full.txLen ∧ full.tx.read 10 = some 7 ∧ 31 < full.rxLen ∧ full.rx.read 31 = some 9 := by
  decide +kernel

theorem witness_HostReadsWhileBusyChangeNothing :
    { full with busy := true }.busy = true ∧ { full with busy := true }.port = .readReg (.res 33) :: [] := ⟨rfl, rfl⟩

theorem witness_ResetLeavesTheResetValues :
    { full with port := [.reset], busy := true }.port = .reset :: [] := rfl

/-- Before the first byte, after an attempt inside the first frame, and after everything. -/
theorem witness_ResetAbandonsAnOperation :
    { full with port := [.issueThenReset (.hostOp [0x0C]) [] 0 0] }.port = .issueThenReset (.hostOp [0x0C]) [] 0 0 :: [] ∧
      { full with port := [.issueThenReset (.hostOp [0x0C]) [.writeAddr 9] 0 3] }.port =
        .issueThenReset (.hostOp [0x0C]) [.writeAddr 9] 0 3 :: [] ∧
      { full with port := [.issueThenReset (.hostOp [0x0C]) [] 39 0] }.port =
        .issueThenReset (.hostOp [0x0C]) [] 39 0 :: [] ∧
      decode (.hostOp [0x0C]) = .ok .collect := ⟨rfl, rfl, rfl, rfl⟩

theorem witness_AttemptsDoNotDisturbAnOperation :
    State.reset.busy = false ∧ (Attempt.writeAddr 9) ∈ [Attempt.writeAddr 9] ∧ (∀ r, Attempt.writeAddr 9 ≠ .readReg r) ∧
      decode (.hostOp [0x0C]) = .ok .collect :=
  ⟨rfl, by decide, (by intro r h; cases h), rfl⟩

/-- The dump on and off. -/
theorem witness_FrameDumpShowsEveryTransfer :
    (∃ t, exec .verify { answered .closed oks with cfgDump := true } = .next t ∧ t.trace.length = 2) ∧
      ∃ t, exec .verify (answered .closed oks) = .next t ∧ t.trace.length = 0 :=
  ⟨⟨_, rfl, by decide +kernel⟩, ⟨_, rfl, by decide +kernel⟩⟩

/-- An instruction that writes a frame. -/
theorem witness_OnlySessionFramesAreSent :
    ∃ t, exec .verify (answered .closed oks) = .next t ∧ (framesWritten t.chanLog).length = 1 :=
  ⟨_, rfl, by decide +kernel⟩

/-- Two states that differ in everything the statement leaves free. -/
theorem witness_NoHiddenAccumulatingState :
    full.busy = State.reset.busy ∧ full.cfgAddr = State.reset.cfgAddr ∧ full.sess = State.reset.sess ∧
      full.chanIn = State.reset.chanIn ∧ full.reads = State.reset.reads ∧ full.rxLen ≠ State.reset.rxLen := by
  decide +kernel

theorem witness_StepRunsTheDecodedInstruction :
    decode (.hostOp [0x0C]) = .ok .collect ∧
      { full with port := [.issue (.hostOp [0x0C]) [.writeAddr 9]] }.port = .issue (.hostOp [0x0C]) [.writeAddr 9] :: [] ∧
      (asked (.hostOp [0x0C]) []).port = .issue (.hostOp [0x0C]) [] :: [] := ⟨rfl, rfl, rfl⟩

/-- A state that meets the invariant and runs `COLLECT`. -/
theorem witness_EveryStepKeepsInvariant :
    (asked (.hostOp [0x0C]) (fullScript oks)).Inv ∧ ∃ t, step (asked (.hostOp [0x0C]) (fullScript oks)) = .next t := by
  refine ⟨?_, _, rfl⟩
  constructor <;> first | decide | rfl

theorem witness_DecodeOfEncodeIsIdentity :
    (Instr.frameRead 0x08 0xFF 0xFF).wellFormed = true ∧ (Instr.decode3 1 2 3 0).wellFormed = true ∧
      Instr.collect.wellFormed = true := by
  decide


end

end Sys2Proof.Tests
end

/-! # Proofs: the state (10_state.md)

The invariant and its step lemma first, then the statements about what a step leaves alone, then the host's reads. -/

namespace Sys2Proof.Machine

/-! ### What a step can do, said once -/

/-- A step performs the first action of the port at the state without it. -/
theorem step_cons {s : State} {e : HostEvent} {rest : List HostEvent} (h : s.port = e :: rest) :
    step s = hostAct e { s with port := rest } := by
  simp only [step, h]

/-- Everything a step that comes to a next state can do: one constructor for each action of the host. -/
inductive Stepped (s : State) : State → Prop
  /-- the host does nothing -/
  | idle (h : s.port = []) : Stepped s s
  /-- an operation runs, what the host attempts meanwhile being served first (log 4) -/
  | ran (w : PortWord) (as : List Attempt) (rest : List HostEvent) (i : Instr) (t : State)
      (h : s.port = .issue w as :: rest) (he : exec i ({ s with port := rest }.attempts as) = .next t) : Stepped s t
  /-- an operation is cut off by reset (R185) -/
  | cut (w : PortWord) (as : List Attempt) (whole part : Nat) (rest : List HostEvent) (i : Instr) (done : State)
      (h : s.port = .issueThenReset w as whole part :: rest)
      (he : exec i ({ s with port := rest }.attempts as) = .next done) :
      Stepped s (State.abandoned whole part ({ s with port := rest }.attempts as) done)
  | wroteAddr (v : Byte) (rest : List HostEvent) (h : s.port = .writeAddr v :: rest) :
      Stepped s ({ s with port := rest }.hostWriteAddr v)
  | wroteDump (v : Bool) (rest : List HostEvent) (h : s.port = .writeDump v :: rest) :
      Stepped s ({ s with port := rest }.hostWriteDump v)
  | readReg (r : HostReg) (rest : List HostEvent) (h : s.port = .readReg r :: rest) :
      Stepped s ({ s with port := rest }.hostRead r)
  | reset (rest : List HostEvent) (h : s.port = .reset :: rest) : Stepped s { s with port := rest }.afterReset

theorem step_cases {s t : State} (h : step s = .next t) : Stepped s t := by
  cases hp : s.port with
  | nil =>
    simp only [step, hp] at h
    cases h
    exact .idle hp
  | cons e rest =>
    rw [step_cons hp] at h
    cases e with
    | issue w as =>
      simp only [hostAct, runIssue] at h
      cases hd : decode w with
      | error e => simp [hd] at h
      | ok i =>
        simp only [hd] at h
        exact .ran w as rest i t hp h
    | issueThenReset w as whole part =>
      simp only [hostAct, runCut] at h
      cases hd : decode w with
      | error e => simp [hd] at h
      | ok i =>
        simp only [hd] at h
        cases he : exec i ({ s with port := rest }.attempts as) with
        | next done =>
          simp only [he] at h
          cases h
          exact .cut w as whole part rest i done hp he
        | fault r => simp [he] at h
        | refused r => simp [he] at h
    | writeAddr v => cases h; exact .wroteAddr v rest hp
    | writeDump v => cases h; exact .wroteDump v rest hp
    | readReg r => cases h; exact .readReg r rest hp
    | reset => cases h; exact .reset rest hp

/-- An instruction that comes to a next state was refused for `Busy`, or its operation ran to its return. -/
theorem exec_cases {i : Instr} {s t : State} (he : exec i s = .next t) :
    (s.busy = true ∧ t = s.refusedWith .busy) ∨
      (s.busy = false ∧ t = returned (instrOp i (s.setBusy true))) := by
  cases hb : s.busy with
  | true =>
    rw [exec_busy i s hb] at he
    cases he
    exact .inl ⟨rfl, rfl⟩
  | false =>
    rw [exec_idle i s hb] at he
    cases he
    exact .inr ⟨rfl, rfl⟩

/-- `BUSY` is after an instruction what it was before (R28). -/
theorem exec_busy_eq {i : Instr} {s t : State} (he : exec i s = .next t) : t.busy = s.busy := by
  rcases exec_cases he with ⟨-, rfl⟩ | ⟨hb, rfl⟩
  · rfl
  · exact hb.symm

/-- A property that every move keeps, and that looks neither at `BUSY` nor at the outcomes given back, is kept by every
instruction, refused for `Busy` or run. -/
theorem KeptByMoves.exec {P : State → Prop} (k : KeptByMoves P) (hbusy : ∀ b s, P s → P (s.setBusy b))
    (hrets : ∀ r s, P s → P (s.giveBack r)) {i : Instr} {s t : State} (h : P s) (he : exec i s = .next t) : P t := by
  rcases exec_cases he with ⟨-, rfl⟩ | ⟨-, rfl⟩
  · exact hrets _ _ (k.refused s h)
  · exact hrets _ _ (hbusy false _ (k.instrOp i _ (hbusy true s h)))

/-- A host read, at rest or not, gives some value back and writes no register: only the count of free values and the record of
the host program's faults may grow (R29, R33). -/
theorem State.hostRead_eq (r : HostReg) (s : State) :
    ∃ v f l, s.hostRead r = { s with freeReads := f, rets := s.rets ++ [.ok v], hostFaults := l } := by
  simp only [State.hostRead]
  split
  · obtain ⟨v, f, h⟩ := s.readBusy_eq r
    exact ⟨v, f, s.hostFaults, h⟩
  · rcases s.readIdle_cases r with ⟨v, -, h⟩ | ⟨-, h⟩
    · exact ⟨v, s.freeReads, s.hostFaults, h⟩
    · exact ⟨_, _, _, h⟩

/-- A write of `CFG_ADDR`, accepted or refused, writes that register or sets `RFS`, and gives an outcome back (R194). -/
theorem State.hostWriteAddr_eq (v : Byte) (s : State) :
    ∃ r a o, (s.rfs = true → r = true) ∧ s.hostWriteAddr v = { s with rfs := r, cfgAddr := a, rets := o } := by
  unfold State.hostWriteAddr
  split
  · exact ⟨true, s.cfgAddr, _, fun _ => rfl, rfl⟩
  · exact ⟨s.rfs, v, _, id, rfl⟩

/-- A write of `CFG_DUMP`, likewise. -/
theorem State.hostWriteDump_eq (v : Bool) (s : State) :
    ∃ r d o, (s.rfs = true → r = true) ∧ s.hostWriteDump v = { s with rfs := r, cfgDump := d, rets := o } := by
  unfold State.hostWriteDump
  split
  · exact ⟨true, s.cfgDump, _, fun _ => rfl, rfl⟩
  · exact ⟨s.rfs, v, _, id, rfl⟩

/-! ### The invariant of the machine -/

/-- The invariant says nothing about `CRC`, `RFS`, the configuration, the agents' coming moves and the records. -/
theorem State.Inv.otherFields {s : State} (h : s.Inv) {crc : U16} {crcWritten rfs cfgDump : Bool} {cfgAddr : Byte}
    {port : List HostEvent} {chanIn trace : List (List Byte)} {reads freeReads : Nat} {rets : List OpResult}
    {hostFaults : List HostReg} :
    State.Inv { s with
      crc := crc, crcWritten := crcWritten, rfs := rfs, cfgDump := cfgDump, cfgAddr := cfgAddr, port := port,
      chanIn := chanIn, trace := trace, reads := reads, freeReads := freeReads, rets := rets,
      hostFaults := hostFaults } :=
  { h with }

/-- The invariant at reset. -/
theorem State.reset_inv : State.reset.Inv where
  txCells := rfl
  txMax := Nat.zero_le _
  rxCells := rfl
  rxMax := Nat.zero_le _
  errLegal := by decide
  statusMeans := by decide
  errCloses _ := rfl
  stepLegal := by decide
  idle := ⟨rfl, rfl⟩
  res24 i _ := by simp [State.reset]
  bus := rfl

/-- Settles O51: reset leaves both buffers empty, every flag and result register 0, the session closed and the record of the
channel empty. -/
theorem resetSatisfiesInvariant : Obligations.ResetSatisfiesInvariant := State.reset_inv

/-- One exchange more keeps the record of the channel disciplined (R49). -/
theorem halfDuplex_exchange {log : List ChanEvent} (h : halfDuplex log) (bytes answer : List Byte) (t : Timeout) :
    halfDuplex (log ++ [.write bytes, .settle, .read t answer]) := by
  unfold halfDuplex at *
  rw [busRun_append, h]
  rfl

/-- A reset may end any disciplined record (R185). -/
theorem halfDuplex_reset {log : List ChanEvent} (h : halfDuplex log) : halfDuplex (log ++ [.reset]) := by
  unfold halfDuplex at *
  rw [busRun_append, h]
  rfl

/-- What reset leaves of an operation's accesses keeps the record disciplined: the reset ends whatever was begun (R185). -/
theorem halfDuplex_cut {log new : List ChanEvent} (h : halfDuplex log) (hnew : halfDuplex (log ++ new))
    (whole part : Nat) : halfDuplex (log ++ cutAccesses whole part new ++ [.reset]) := by
  unfold halfDuplex at *
  rw [busRun_append, h] at hnew
  obtain ⟨q, hq⟩ := busRun_cut whole part new .quiet ⟨_, hnew⟩
  rw [busRun_append, busRun_append, h]
  simp only [Option.bind_some, hq, busRun_reset]

/-- After a reset the invariant asks only that the channel was used as R49 says. -/
theorem State.afterReset_inv {s : State} (h : halfDuplex (s.chanLog ++ [.reset])) : s.afterReset.Inv :=
  { State.reset_inv with bus := h }

/-- An exchange whose frame fits `TX` keeps the invariant: buffers filled from offset 0, flags cleared, one round on the bus. -/
theorem State.Inv.exchanged {s : State} (h : s.Inv) {payload : List Byte} (hp : payload.length ≤ 8) (v : Variant)
    (t : Timeout) : (s.exchanged payload v t).Inv :=
  { h with
    txCells := by simp [State.exchanged]
    txMax := by simpa [State.exchanged, Config.txMax] using hp
    rxCells := Memory.ofBytes_keys _
    rxMax := s.chanReply_length
    errLegal := Nat.zero_le _
    statusMeans := by simp [State.exchanged]
    errCloses := fun he => absurd rfl he
    idle := ⟨h.idle.1, rfl⟩
    bus := halfDuplex_exchange h.bus _ _ t }

/-- The session may move while no error is latched (R131). -/
theorem State.Inv.setSess {s : State} (h : s.Inv) (he : s.err = 0) (x : Session) : (s.setSess x).Inv :=
  { h with errCloses := fun hne => absurd he hne }

/-- The kind and the code an abort latches agree (R18, R170). -/
theorem statusLeft_ne_zero_iff (e : ErrKind) (he : ∀ code, e = .protocolError code → code ≠ 0) :
    statusLeft e ≠ 0 ↔ errCode e = 3 := by
  cases e with
  | protocolError code => simpa [statusLeft, carriedCode, errCode] using he code rfl
  | wrongResultSize => decide
  | wrongCrc => decide
  | channelTimeout => decide
  | midSessionTimeout => decide

theorem errCode_le (e : ErrKind) : (errCode e).toNat ≤ 5 := by
  cases e <;> simp [errCode]

/-- An exchange that fails keeps the invariant: the error is latched with its code and closes the session (R170). -/
theorem State.Inv.exchangeFailed {s : State} (h : s.Inv) {payload : List Byte} (hp : payload.length ≤ 8) (v : Variant)
    (t : Timeout) (e : ErrKind) (he : ∀ code, e = .protocolError code → code ≠ 0) :
    (s.exchangeFailed payload v t e).Inv :=
  { h.exchanged hp v t with
    errLegal := errCode_le e
    statusMeans := statusLeft_ne_zero_iff e he
    errCloses := fun _ => rfl }

/-- Below register 22 every measurement's fields are triples, so what is delivered has 24 bits (R25, R68). -/
theorem responseRaws_lt (m : Meas) (b : List Byte) (hm : measDest m < 22) :
    ∀ x ∈ responseRaws (parse (measVariant m) b), x.toNat < 2 ^ 24 := by
  cases m
  case eReset | eYday | eToday => exact absurd hm (by decide)
  all_goals
    simp only [measVariant, parse, responseRaws, List.forall_mem_cons, List.not_mem_nil, false_implies, implies_true,
      tripleRaw_setWidth_lt, and_self]

/-- Delivering a measurement keeps the invariant. -/
theorem State.Inv.deliver {s : State} (h : s.Inv) (m : Meas) (b : List Byte) :
    (deliver m (parse (measVariant m) b) s).Inv :=
  { h with
    res24 := by
      intro i hi
      show (groupWritten (measDest m) (responseRaws (parse (measVariant m) b)) s.res)[i].toNat < 2 ^ 24
      rw [groupWritten_getElem]
      split
      next hin =>
        have hlt : i.val - measDest m < (responseRaws (parse (measVariant m) b)).length := by omega
        rw [List.getD_eq_getElem _ _ hlt]
        exact responseRaws_lt m b (by omega) _ (List.getElem_mem hlt)
      next => exact h.res24 i hi }

/-- An operation that does not use the channel keeps the invariant: it writes `CRC`, `RFS` and the buffers alone, and a buffer
only as a whole. -/
theorem State.Inv.dataMoved {s t : State} {i : Instr} (h : s.Inv) (hs : SameButData t s) (hd : DataMoves i t s) :
    t.Inv where
  txCells := by
    rcases hd.tx with ⟨htx, hlen⟩ | ⟨payload, -, htx, hlen⟩
    · rw [htx, hlen, h.txCells]
    · rw [htx, hlen, Memory.ofBytes_keys, frameOf_length, List.length_cons]
  txMax := by
    rcases hd.tx with ⟨-, hlen⟩ | ⟨payload, hp, -, hlen⟩
    · exact hlen ▸ h.txMax
    · have := builderPayload_length i payload hp
      simp only [hlen, Config.txMax]
      omega
  rxCells := by
    rcases hd.rx with ⟨hrx, hlen⟩ | ⟨-, b, -, hrx, hlen⟩
    · rw [hrx, hlen, h.rxCells]
    · rw [hrx, hlen, Memory.ofBytes_keys]
  rxMax := by
    rcases hd.rx with ⟨-, hlen⟩ | ⟨-, b, hb, -, hlen⟩
    · exact hlen ▸ h.rxMax
    · exact hlen ▸ hb
  errLegal := hs.err ▸ h.errLegal
  statusMeans := by rw [hs.status, hs.err]; exact h.statusMeans
  errCloses := by rw [hs.err, hs.sess]; exact h.errCloses
  stepLegal := hs.step ▸ h.stepLegal
  idle := by rw [hs.busy, hs.phase]; exact h.idle
  res24 := by rw [hs.res]; exact h.res24
  bus := hs.chanLog ▸ h.bus

/-- The invariant while an operation runs: all of it but that `BUSY` is 0. -/
def State.OpInv (s : State) : Prop := (s.setBusy false).Inv

theorem State.Inv.opInv {s : State} (h : s.Inv) : s.OpInv := { h with idle := ⟨rfl, h.idle.2⟩ }

/-- Every move of an operation keeps the invariant. -/
theorem opInv_keptByMoves : KeptByMoves State.OpInv where
  pure i s hi h :=
    have hs := instrOp_same i s hi
    have hd := instrOp_moves i s hi
    h.dataMoved (i := i) { hs with busy := rfl } { hd with }
  refused _ h := h.otherFields
  start _ h :=
    { h with
      errLegal := Nat.zero_le _
      statusMeans := by simp [State.collectStart]
      errCloses := fun he => absurd rfl he
      res24 := fun i _ => by simp [State.collectStart] }
  step k s hk h := { h with
    stepLegal := by
      show (BitVec.ofNat 4 k).toNat ≤ 14
      rw [BitVec.toNat_ofNat]
      omega }
  passed payload t x s hp h := State.Inv.setSess (h.exchanged (sessionPayloads_length payload hp) .status t) rfl x
  read m s h :=
    have hx := h.exchanged (sessionPayloads_length _ (measPayload_mem m)) (measVariant m) .reply
    State.Inv.setSess (hx.deliver m s.chanReply) rfl .reading
  failed payload v t e s hp he h := h.exchangeFailed (sessionPayloads_length payload hp) v t e he

/-- Attempts during an operation keep the invariant. -/
theorem State.Inv.attempts {s : State} (h : s.Inv) (as : List Attempt) : (s.attempts as).Inv := by
  obtain ⟨r, f, o, he⟩ := s.attempts_eq as
  rw [he]
  exact h.otherFields

/-- Every instruction keeps the invariant. -/
theorem State.Inv.exec {i : Instr} {s t : State} (h : s.Inv) (he : exec i s = .next t) : t.Inv :=
  have ht : t.OpInv := opInv_keptByMoves.exec (fun _ _ h => h) (fun _ _ h => h.otherFields) h.opInv he
  { ht with idle := ⟨(exec_busy_eq he).trans h.idle.1, ht.idle.2⟩ }

/-- Every instruction adds to the channel's record. -/
theorem exec_chanLog {i : Instr} {s t : State} (he : exec i s = .next t) : ∃ log, t.chanLog = s.chanLog ++ log :=
  (chanLog_grows s).exec (fun _ _ h => h) (fun _ _ h => h) ⟨[], (List.append_nil _).symm⟩ he

/-- An operation that reset cuts off leaves the invariant. -/
theorem State.Inv.abandoned {s done : State} {i : Instr} (h : s.Inv) (he : Machine.exec i s = .next done)
    (whole part : Nat) : (State.abandoned whole part s done).Inv := by
  obtain ⟨log, hlog⟩ := exec_chanLog he
  apply State.afterReset_inv
  rw [hlog, List.drop_left]
  exact halfDuplex_cut h.bus (hlog ▸ (h.exec he).bus) whole part

/-- Settles O52: by the host's action. An operation keeps the invariant because each of its moves does; what reset leaves is the
reset state with a disciplined record of the channel; the rest writes no register the invariant speaks of. -/
theorem everyStepKeepsInvariant : Obligations.EveryStepKeepsInvariant := by
  intro s t h hstep
  have hport (rest : List HostEvent) : State.Inv { s with port := rest } := h.otherFields
  cases step_cases hstep with
  | idle => exact h
  | ran w as rest i t _ he => exact ((hport rest).attempts as).exec he
  | cut w as whole part rest i done _ he => exact ((hport rest).attempts as).abandoned he whole part
  | wroteAddr v rest =>
    obtain ⟨_, _, _, -, hw⟩ := State.hostWriteAddr_eq v { s with port := rest }
    rw [hw]
    exact h.otherFields
  | wroteDump v rest =>
    obtain ⟨_, _, _, -, hw⟩ := State.hostWriteDump_eq v { s with port := rest }
    rw [hw]
    exact h.otherFields
  | readReg r rest =>
    obtain ⟨_, _, _, hr⟩ := State.hostRead_eq r { s with port := rest }
    rw [hr]
    exact h.otherFields
  | reset rest => exact State.afterReset_inv (halfDuplex_reset h.bus)

/-! ### `RFS` (R19) -/

theorem rfs_keptByMoves : KeptByMoves fun t => t.rfs = true where
  pure i s hi h := (instrOp_moves i s hi).rfs h
  refused _ _ := rfl
  start _ h := h
  step _ _ _ h := h
  passed _ _ _ _ _ h := h
  read _ _ h := h
  failed _ _ _ _ _ _ _ h := h

theorem exec_rfs {i : Instr} {s t : State} (h : s.rfs = true) (he : exec i s = .next t) : t.rfs = true :=
  rfs_keptByMoves.exec (fun _ _ h => h) (fun _ _ h => h) h he

theorem attempts_foldl_rfs (as : List Attempt) (s : State) (h : s.rfs = true) :
    (as.foldl (fun t a => t.attempt a) s).rfs = true := by
  induction as generalizing s with
  | nil => exact h
  | cons a as ih => exact ih _ (s.attempt_rfs a h)

theorem State.attempts_rfs (as : List Attempt) (s : State) (h : s.rfs = true) : (s.attempts as).rfs = true :=
  attempts_foldl_rfs as (s.setBusy true) h

/-- Settles O31: by the host's action; every move of an operation keeps `RFS`, and only the two actions with a reset clear it. -/
theorem rfsIsStickyUntilReset : Obligations.RfsIsStickyUntilReset := by
  intro s t h hstep
  cases step_cases hstep with
  | idle => exact .inl h
  | ran w as rest i t _ he => exact .inl (exec_rfs (State.attempts_rfs as { s with port := rest } h) he)
  | cut w as whole part rest i done hp => exact .inr (.inr ⟨w, as, whole, part, rest, hp⟩)
  | wroteAddr v rest =>
    obtain ⟨_, _, _, hrfs, hw⟩ := State.hostWriteAddr_eq v { s with port := rest }
    rw [hw]
    exact .inl (hrfs h)
  | wroteDump v rest =>
    obtain ⟨_, _, _, hrfs, hw⟩ := State.hostWriteDump_eq v { s with port := rest }
    rw [hw]
    exact .inl (hrfs h)
  | readReg r rest =>
    obtain ⟨_, _, _, hr⟩ := State.hostRead_eq r { s with port := rest }
    rw [hr]
    exact .inl h
  | reset rest hp => exact .inr (.inl ⟨rest, hp⟩)

/-! ### The frame of every instruction -/

/-- What belongs to the host's side of the port: the configuration, the host's coming actions, the free values handed out and
the faults of the host program. -/
structure SameHostSide (t s : State) : Prop where
  cfgAddr : t.cfgAddr = s.cfgAddr
  cfgDump : t.cfgDump = s.cfgDump
  port : t.port = s.port
  freeReads : t.freeReads = s.freeReads
  hostFaults : t.hostFaults = s.hostFaults

/-- No move of an operation touches the host's side. -/
theorem sameHostSide_keptByMoves (s : State) : KeptByMoves fun t => SameHostSide t s where
  pure i t hi h :=
    have hs := instrOp_same i t hi
    ⟨hs.cfgAddr.trans h.cfgAddr, hs.cfgDump.trans h.cfgDump, hs.port.trans h.port, hs.freeReads.trans h.freeReads,
      hs.hostFaults.trans h.hostFaults⟩
  refused _ h := { h with }
  start _ h := { h with }
  step _ _ _ h := { h with }
  passed _ _ _ _ _ h := { h with }
  read _ _ h := { h with }
  failed _ _ _ _ _ _ _ h := { h with }

theorem exec_sameHostSide {i : Instr} {s t : State} (he : exec i s = .next t) : SameHostSide t s :=
  (sameHostSide_keptByMoves s).exec (fun _ _ h => { h with }) (fun _ _ h => { h with }) ⟨rfl, rfl, rfl, rfl, rfl⟩ he

theorem verifyOp_step_res (s : State) : (verifyOp s).2.step = s.step ∧ (verifyOp s).2.res = s.res := by
  rcases verifyOp_cases s with ⟨e, -, h⟩ | ⟨-, h⟩ <;> rw [h] <;> exact ⟨rfl, rfl⟩

theorem initOp_step_res (s : State) : (initOp s).2.step = s.step ∧ (initOp s).2.res = s.res := by
  rcases initOp_cases s with ⟨-, h⟩ | ⟨-, e, -, h⟩ | ⟨-, -, h⟩ <;> rw [h] <;> exact ⟨rfl, rfl⟩

theorem readOp_step (m : Meas) (s : State) : (readOp m s).2.step = s.step := by
  rcases readOp_cases m s with ⟨-, h⟩ | ⟨-, e, -, h⟩ | ⟨-, -, h⟩ <;> rw [h] <;> rfl

theorem closeOp_step_res (s : State) : (closeOp s).2.step = s.step ∧ (closeOp s).2.res = s.res := by
  rcases closeOp_cases s with ⟨e, -, h⟩ | ⟨-, h⟩ <;> rw [h] <;> exact ⟨rfl, rfl⟩

/-- `STEP` is written by `COLLECT` alone (R21). -/
theorem instrOp_step (i : Instr) (s : State) (hc : i ≠ .collect) : (instrOp i s).2.step = s.step := by
  by_cases hi : usesChannel i
  · rcases hi with rfl | rfl | ⟨m, hm⟩ | rfl | rfl
    · exact (verifyOp_step_res s).1
    · exact (initOp_step_res s).1
    · rw [instrOp_of_isRead i m s hm]
      exact readOp_step m s
    · exact (closeOp_step_res s).1
    · exact absurd rfl hc
  · exact (instrOp_same i s hi).step

/-- `RES` is written by `READ` and `COLLECT` alone (R25). -/
theorem instrOp_res (i : Instr) (s : State) (hc : i ≠ .collect) (hr : ¬∃ m, isRead i m) :
    (instrOp i s).2.res = s.res := by
  by_cases hi : usesChannel i
  · rcases hi with rfl | rfl | h | rfl | rfl
    · exact (verifyOp_step_res s).2
    · exact (initOp_step_res s).2
    · exact absurd h hr
    · exact (closeOp_step_res s).2
    · exact absurd rfl hc
  · exact (instrOp_same i s hi).res

/-- Settles O32: a refusal for `Busy` writes `RFS` and the outcomes; otherwise the operation's own frame lemmas give each
clause. -/
theorem instructionsTouchOnlyTheirRegisters : Obligations.InstructionsTouchOnlyTheirRegisters := by
  intro i s t he
  have hh := exec_sameHostSide he
  refine ⟨⟨hh.cfgAddr, hh.cfgDump, hh.port, exec_busy_eq he, hh.freeReads, hh.hostFaults⟩, ?_⟩
  rcases exec_cases he with ⟨-, rfl⟩ | ⟨-, rfl⟩
  · exact ⟨fun _ => rfl, fun _ _ => rfl, fun _ => ⟨⟨rfl, rfl, rfl, rfl, rfl, rfl, rfl, rfl⟩,
      fun _ => ⟨fun _ => rfl, rfl⟩, fun _ _ => ⟨fun _ => rfl, rfl⟩⟩⟩
  · refine ⟨instrOp_step i (s.setBusy true), instrOp_res i (s.setBusy true), fun hno => ?_⟩
    have hi : ¬usesChannel i := by
      unfold usesChannel
      tauto
    have hs := instrOp_same i (s.setBusy true) hi
    have hd := instrOp_moves i (s.setBusy true) hi
    refine ⟨⟨hs.err, hs.status, hs.sess, hs.phase, hs.chanLog, hs.chanIn, hs.reads, hs.trace⟩, fun hb => ?_,
      fun hv hf => ?_⟩
    · rcases hd.tx with ⟨htx, hlen⟩ | ⟨payload, hp, -⟩
      · exact ⟨fun a => congrArg (Memory.read · a) htx, hlen⟩
      · exact absurd hp (by simp [hb])
    · rcases hd.rx with ⟨hrx, hlen⟩ | ⟨⟨v, b, h⟩ | ⟨v, b, h⟩, -⟩
      · exact ⟨fun a => congrArg (Memory.read · a) hrx, hlen⟩
      · exact absurd h (hv v b)
      · exact absurd h (hf v b)

/-! ### Reads of what has no value (R33) -/

theorem Memory.read_eq_none_iff (m : Memory) (a : Nat) : m.read a = none ↔ a ∉ m.map Prod.fst := by
  induction m with
  | nil => simp [Memory.read]
  | cons c rest ih =>
    obtain ⟨k, b⟩ := c
    by_cases h : k = a
    · simp [Memory.read, h]
    · simpa [Memory.read, h, Ne.symm h] using ih

/-- A buffer whose cells are the offsets below its length has no value exactly at or above the length. -/
theorem bufferValue_eq_none_iff {m : Memory} {len : Nat} (h : m.map Prod.fst = List.range len) (i : Nat) :
    bufferValue m len i = none ↔ len ≤ i := by
  by_cases hi : i < len
  · have hr : m.read i ≠ none := by
      rw [Ne, Memory.read_eq_none_iff, h, List.mem_range]
      exact fun hn => hn hi
    simp [bufferValue, hi, hr]
  · simp [bufferValue, hi, Nat.le_of_not_lt hi]

/-- The reads of R33: `CRC` before its first write, a buffer at or above its length. -/
def State.unspecified (s : State) (r : HostReg) : Prop :=
  (r = .crc ∧ s.crcWritten = false) ∨ (∃ i, r = .tx i ∧ s.txLen ≤ i.val) ∨ ∃ i, r = .rx i ∧ s.rxLen ≤ i.val

/-- Under the invariant exactly those registers have no value. -/
theorem State.Inv.regValue_eq_none_iff {s : State} (h : s.Inv) (r : HostReg) :
    s.regValue r = none ↔ s.unspecified r := by
  cases r with
  | crc => simp [State.regValue, State.unspecified]
  | tx i => simp [State.regValue, State.unspecified, bufferValue_eq_none_iff h.txCells]
  | rx i => simp [State.regValue, State.unspecified, bufferValue_eq_none_iff h.rxCells]
  | txLen | rxLen | err | status | rfs | sess | step | cfgAddr | cfgDump | res i | busy | phase =>
    simp [State.regValue, State.unspecified]

/-- A host read at rest of a register that has a value: the value is given back and nothing else changes (R45). -/
theorem State.hostRead_of_some {s : State} {r : HostReg} {v : OpValue} (hb : s.busy = false)
    (hv : s.regValue r = some v) : s.hostRead r = s.giveBack (.ok v) := by
  simp [State.hostRead, hb, State.readIdle, hv]

/-- A host read at rest of a register that has no value: a free value, and one fault of the host program (R33). -/
theorem State.hostRead_of_none {s : State} {r : HostReg} (hb : s.busy = false) (hv : s.regValue r = none) :
    s.hostRead r = { s with hostFaults := s.hostFaults ++ [r] }.freeRead r := by
  simp [State.hostRead, hb, State.readIdle, hv]

theorem State.attempts_hostFaults (as : List Attempt) (s : State) : (s.attempts as).hostFaults = s.hostFaults := by
  obtain ⟨r, f, o, h⟩ := s.attempts_eq as
  rw [h]

/-- Settles O40: under the invariant a register has no value exactly where R33 says so; the read of one is recorded, and no other
action of the host touches the record. -/
theorem faultsAreReadsOfUnspecifiedBytes : Obligations.FaultsAreReadsOfUnspecifiedBytes := by
  intro s hs
  refine ⟨fun r rest hp hr => ?_, fun t hstep hne => ?_⟩
  · have hv : State.regValue { s with port := rest } r = none := (hs.regValue_eq_none_iff r).mpr hr
    refine ⟨_, freeValue r (Config.freeRegister s.freeReads), step_cons hp, ?_⟩
    simp only [State.hostRead_of_none (s := { s with port := rest }) hs.idle.1 hv]
    rfl
  · cases step_cases hstep with
    | idle => exact absurd rfl hne
    | ran w as rest i t _ he => exact absurd ((exec_sameHostSide he).hostFaults.trans (State.attempts_hostFaults as _)) hne
    | cut w as whole part rest i done => exact absurd (State.attempts_hostFaults as _) hne
    | wroteAddr v rest =>
      obtain ⟨_, _, _, -, hw⟩ := State.hostWriteAddr_eq v { s with port := rest }
      exact absurd (congrArg State.hostFaults hw) hne
    | wroteDump v rest =>
      obtain ⟨_, _, _, -, hw⟩ := State.hostWriteDump_eq v { s with port := rest }
      exact absurd (congrArg State.hostFaults hw) hne
    | readReg r rest hp =>
      refine ⟨r, rest, hp, (hs.regValue_eq_none_iff r).mp ?_⟩
      cases hv : s.regValue r with
      | none => rfl
      | some v => exact absurd (congrArg State.hostFaults (State.hostRead_of_some (s := { s with port := rest }) hs.idle.1 hv)) hne
    | reset => exact absurd rfl hne

/-! ### Host reads -/

/-- A step that reads, at rest, a register that has a value. -/
theorem step_readReg {s : State} {r : HostReg} {x : OpValue} {rest : List HostEvent} (hb : s.busy = false)
    (hp : s.port = .readReg r :: rest) (hv : s.regValue r = some x) :
    step s = .next { s with port := rest, rets := s.rets ++ [.ok x] } := by
  rw [step_cons hp]
  exact congrArg Host.Outcome.next (State.hostRead_of_some (s := { s with port := rest }) hb hv)

theorem bufferValue_of_read {m : Memory} {len i : Nat} {b : Byte} (hi : i < len) (hb : m.read i = some b) :
    bufferValue m len i = some (.word (b.setWidth 32)) := by
  simp [bufferValue, hi, hb]

/-- Settles O41: one case for each register of R14, whose value `regValue` gives. -/
theorem hostReadsReturnTheRegister : Obligations.HostReadsReturnTheRegister := by
  intro s rest r x hb hp h
  apply step_readReg hb hp
  rcases h with ⟨rfl, hw, rfl⟩ | ⟨i, b, rfl, hi, hr, rfl⟩ | ⟨rfl, rfl⟩ | ⟨i, b, rfl, hi, hr, rfl⟩ | ⟨rfl, rfl⟩ |
    ⟨rfl, rfl⟩ | ⟨rfl, rfl⟩ | ⟨rfl, rfl⟩ | ⟨rfl, rfl⟩ | ⟨rfl, rfl⟩ | ⟨rfl, rfl⟩ | ⟨rfl, rfl⟩ | ⟨i, rfl, rfl⟩ |
    ⟨rfl, rfl⟩ | ⟨rfl, rfl⟩
  · simp [State.regValue, hw]
  · exact bufferValue_of_read hi hr
  · rfl
  · exact bufferValue_of_read hi hr
  · rfl
  · rfl
  · rfl
  · rfl
  · cases hs : s.sess <;> simp [State.regValue, sessionCode, hs]
  · rfl
  · rfl
  · rfl
  · rfl
  · simp [State.regValue, bitValue, hb]
  · rfl

/-- Settles O42: a read at `BUSY` = 1 gives back some value; `BUSY` is not in flux and reads true. -/
theorem hostReadsWhileBusyChangeNothing : Obligations.HostReadsWhileBusyChangeNothing := by
  intro s rest r hb hp
  have hstep : step s = .next (State.readBusy r { s with port := rest }) := by
    rw [step_cons hp]
    exact congrArg Host.Outcome.next (if_pos hb)
  obtain ⟨x, f, hr⟩ := State.readBusy_eq r { s with port := rest }
  refine ⟨_, x, hstep, by rw [hr], ?_⟩
  rintro rfl
  have hone : State.readBusy .busy { s with port := rest } = State.giveBack (.ok (.word 1)) { s with port := rest } := by
    simp [State.readBusy, inFlux, State.regValue, bitValue, hb]
  have hrets := congrArg State.rets (hr.symm.trans hone)
  simpa [State.giveBack] using hrets

/-! ### The operations that do not use the channel, as operations -/

/-- The five kinds of work an operation that does not use the channel can be. Which of them it is depends on the operands alone,
not on the state. -/
inductive DataOp : Op → Prop
  | refuse (r : RefuseReason) : DataOp (refuse r)
  | crc (bytes : List Byte) : DataOp fun s => (.ok (.u16 (crc16 bytes)), s.runCrc bytes)
  | decode (raw scale : Nat) : DataOp fun s => (.ok (.scaled raw scale), s)
  | build (payload : List Byte) : DataOp (buildOp payload)
  | validate (v : Variant) (bytes : List Byte) : DataOp (validateOp v bytes)

theorem crc16Op_dataOp (bytes : List Byte) : DataOp (crc16Op bytes) := by
  unfold crc16Op
  split
  · exact .crc bytes
  · exact .refuse .badOperand

theorem decodeOp_dataOp (raw scale : Nat) : DataOp (decodeOp raw scale) := by
  unfold decodeOp
  split
  · exact .refuse .scaleZero
  · exact .decode raw scale

theorem validateCodeOp_dataOp (v : Byte) (buffer : List Byte) : DataOp (validateCodeOp v buffer) := by
  unfold validateCodeOp
  split
  · exact .refuse .badOperand
  · split
    · exact .validate _ buffer
    · exact .refuse .badOperand

theorem usesChannel_readInstrOf (m : Meas) : usesChannel (readInstrOf m) :=
  .inr (.inr (.inl ⟨m, .inl (mem_readInstrs.mpr rfl)⟩))

theorem instrOp_dataOp (i : Instr) (h : ¬usesChannel i) : DataOp (instrOp i) := by
  cases i
  case crc16 => exact crc16Op_dataOp _
  case decode3 => exact decodeOp_dataOp _ _
  case decode4 => exact decodeOp_dataOp _ _
  case validate => exact validateCodeOp_dataOp _ _
  case verify => exact absurd (.inl rfl) h
  case init => exact absurd (.inr (.inl rfl)) h
  case read m =>
    show DataOp (readCodeOp m)
    unfold readCodeOp
    split
    next => exact .refuse .badOperand
    next x hm => exact absurd (.inr (.inr (.inl ⟨x, isRead_of_measOfCode m x hm⟩))) h
  case readU => exact absurd (usesChannel_readInstrOf .u) h
  case readI => exact absurd (usesChannel_readInstrOf .i) h
  case readCosf => exact absurd (usesChannel_readInstrOf .cosf) h
  case readFreq => exact absurd (usesChannel_readInstrOf .freq) h
  case readAngle => exact absurd (usesChannel_readInstrOf .angle) h
  case readP => exact absurd (usesChannel_readInstrOf .p) h
  case readQ => exact absurd (usesChannel_readInstrOf .q) h
  case readEReset => exact absurd (usesChannel_readInstrOf .eReset) h
  case readEYday => exact absurd (usesChannel_readInstrOf .eYday) h
  case readEToday => exact absurd (usesChannel_readInstrOf .eToday) h
  case close => exact absurd (.inr (.inr (.inr (.inl rfl)))) h
  case collect => exact absurd (.inr (.inr (.inr (.inr rfl)))) h
  case reservedD | reservedE | reservedF => exact .refuse .reservedOp
  case vStatus | vTriple | vTriple3 | vSumTriple3 | vSumQuad3 => exact .validate _ _
  all_goals exact .build _

/-! ### Two runs that differ in the host's answers or in the frame dump (log 4, R146) -/

/-- The states agree in all that an operation reads: they differ in `RFS`, the count of free reads and the outcomes given back,
unless `sameAnswers` holds, and in `CFG_DUMP` and what the trace port was given, unless `sameDump` holds. -/
def SameBut (sameAnswers sameDump : Prop) (a b : State) : Prop :=
  ∃ r f o d l, b = { a with rfs := r, freeReads := f, rets := o, cfgDump := d, trace := l } ∧
    (sameAnswers → r = a.rfs ∧ f = a.freeReads ∧ o = a.rets) ∧ (sameDump → d = a.cfgDump ∧ l = a.trace)

section

variable {sameAnswers sameDump : Prop}

theorem SameBut.eq_of_sameDump {a b : State} (h : SameBut sameAnswers sameDump a b) (hd : sameDump) :
    { b with rfs := a.rfs, rets := a.rets, freeReads := a.freeReads } = a := by
  obtain ⟨r, f, o, d, l, rfl, -, hdump⟩ := h
  obtain ⟨rfl, rfl⟩ := hdump hd
  rfl

theorem SameBut.eq_of_sameAnswers {a b : State} (h : SameBut sameAnswers sameDump a b) (ha : sameAnswers) :
    { b with cfgDump := a.cfgDump, trace := a.trace } = a := by
  obtain ⟨r, f, o, d, l, rfl, hanswers, -⟩ := h
  obtain ⟨rfl, rfl, rfl⟩ := hanswers ha
  rfl

theorem sameBut_dataOp {op : Op} (h : DataOp op) (a b : State) (hab : SameBut sameAnswers sameDump a b) :
    Alike (SameBut sameAnswers sameDump) (op a) (op b) := by
  obtain ⟨r, f, o, d, l, rfl, ha, hd⟩ := hab
  cases h with
  | refuse => exact ⟨rfl, true, f, o, d, l, rfl, fun h => ⟨rfl, (ha h).2⟩, hd⟩
  | crc => exact ⟨rfl, r, f, o, d, l, rfl, ha, hd⟩
  | decode => exact ⟨rfl, r, f, o, d, l, rfl, ha, hd⟩
  | build payload => exact ⟨by simp [buildOp], r, f, o, d, l, rfl, ha, hd⟩
  | validate v bytes =>
    simp only [validateOp, State.crcChecked, State.rxBytes_putRx]
    split
    · exact ⟨rfl, r, f, o, d, l, rfl, ha, hd⟩
    · exact ⟨rfl, r, f, o, d, l, rfl, ha, hd⟩

/-- One exchange: the trace port is given the same where `CFG_DUMP` is the same. -/
theorem SameBut.exchanged {a b : State} (h : SameBut sameAnswers sameDump a b) (payload : List Byte) (v : Variant)
    (t : Timeout) : SameBut sameAnswers sameDump (a.exchanged payload v t) (b.exchanged payload v t) := by
  obtain ⟨r, f, o, d, l, rfl, ha, hd⟩ := h
  refine ⟨r, f, o, d, _, rfl, ha, fun h => ?_⟩
  obtain ⟨rfl, rfl⟩ := hd h
  exact ⟨rfl, rfl⟩

/-- The moves that write none of the five registers and records, or the same to both. -/
theorem sameBut_moves : RelatedByMoves (SameBut sameAnswers sameDump) where
  reply := by rintro a b ⟨r, f, o, d, l, rfl, -⟩; rfl
  sess := by rintro a b ⟨r, f, o, d, l, rfl, -⟩; rfl
  pure i a b hi h := sameBut_dataOp (instrOp_dataOp i hi) a b h
  refused a b h := (sameBut_dataOp (.refuse .busy) a b h).2
  start := by rintro a b ⟨r, f, o, d, l, rfl, h⟩; exact ⟨r, f, o, d, l, rfl, h⟩
  step := by rintro k a b ⟨r, f, o, d, l, rfl, h⟩; exact ⟨r, f, o, d, l, rfl, h⟩
  setSess := by rintro x a b ⟨r, f, o, d, l, rfl, h⟩; exact ⟨r, f, o, d, l, rfl, h⟩
  exchanged payload v t a b h := h.exchanged payload v t
  delivered := by rintro m x a b ⟨r, f, o, d, l, rfl, h⟩; exact ⟨r, f, o, d, l, rfl, h⟩
  failed payload v t e a b h := by
    obtain ⟨r, f, o, d, l, hx, h⟩ := h.exchanged payload v t
    exact ⟨r, f, o, d, l, by simp only [State.exchangeFailed, hx], h⟩

/-- Returns that are alike leave states that are. -/
theorem Alike.returned {p q : OpResult × State} (h : Alike (SameBut sameAnswers sameDump) p q) :
    SameBut sameAnswers sameDump (returned p) (returned q) := by
  obtain ⟨hout, r, f, o, d, l, hend, ha, hd⟩ := h
  refine ⟨r, f, o ++ [p.1], d, l, by rw [Machine.returned, Machine.returned, hout, hend]; rfl, fun h => ?_, hd⟩
  obtain ⟨rfl, rfl, rfl⟩ := ha h
  exact ⟨rfl, rfl, rfl⟩

end

/-- No move of an operation gives an outcome back: only its return does. -/
theorem rets_keptByMoves (s : State) : KeptByMoves fun t => t.rets = s.rets where
  pure i t hi h := (instrOp_same i t hi).rets.trans h
  refused _ h := h
  start _ h := h
  step _ _ _ h := h
  passed _ _ _ _ _ h := h
  read _ _ h := h
  failed _ _ _ _ _ _ _ h := h

/-- A return gives back the outcome after those of before. -/
theorem returned_rets (i : Instr) (s : State) :
    (returned (instrOp i (s.setBusy true))).rets = s.rets ++ [(instrOp i (s.setBusy true)).1] :=
  congrArg (· ++ [(instrOp i (s.setBusy true)).1]) ((rets_keptByMoves s).instrOp i (s.setBusy true) rfl)

/-- An attempt that is no read is refused, with `RFS` set (R28, R194). -/
theorem State.attempt_sets_rfs (a : Attempt) (s : State) (hb : s.busy = true) (ha : ∀ r, a ≠ .readReg r) :
    (s.attempt a).rfs = true := by
  cases a with
  | issue w => rfl
  | writeAddr v => rw [show s.attempt (.writeAddr v) = s.refuseBusy from if_pos hb]; rfl
  | writeDump v => rw [show s.attempt (.writeDump v) = s.refuseBusy from if_pos hb]; rfl
  | readReg r => exact absurd rfl (ha r)

theorem attempts_foldl_sets_rfs (as : List Attempt) (s : State) (hb : s.busy = true)
    (ha : ∃ a ∈ as, ∀ r, a ≠ .readReg r) : (as.foldl (fun t a => t.attempt a) s).rfs = true := by
  induction as generalizing s with
  | nil => simp at ha
  | cons a as ih =>
    obtain ⟨c, hc, hr⟩ := ha
    rcases List.mem_cons.mp hc with rfl | hc
    · exact attempts_foldl_rfs as _ (s.attempt_sets_rfs c hb hr)
    · have hb' : (s.attempt a).busy = true := by rw [State.attempt_eq a s hb]; exact hb
      exact ih _ hb' ⟨c, hc, hr⟩

theorem State.attempts_sets_rfs (as : List Attempt) (s : State) (ha : ∃ a ∈ as, ∀ r, a ≠ .readReg r) :
    (s.attempts as).rfs = true :=
  attempts_foldl_sets_rfs as (s.setBusy true) rfl ha

/-- Settles O45: what is attempted changes nothing the operation reads, so the operation comes to the same outcome and the same
state but for `RFS` and the answers. -/
theorem attemptsDoNotDisturbAnOperation : Obligations.AttemptsDoNotDisturbAnOperation := by
  intro i s as hb
  obtain ⟨answers, hanswered, hanswers⟩ := s.attempts_answered as
  obtain ⟨r, f, o, has⟩ := s.attempts_eq as
  have hb' : (s.attempts as).busy = false := by rw [has]; exact hb
  have hstart : SameBut False True (s.setBusy true) ((s.attempts as).setBusy true) :=
    ⟨r, f, o, s.cfgDump, s.trace, by rw [has]; rfl, False.elim, fun _ => ⟨rfl, rfl⟩⟩
  have halike := sameBut_moves.instrOp i _ _ hstart
  have he := exec_idle i _ hb'
  refine ⟨_, _, he, exec_idle i s hb, halike.returned.eq_of_sameDump trivial,
    ⟨(instrOp i (s.setBusy true)).1, answers, returned_rets i s, ?_, hanswered⟩,
    fun ha => exec_rfs (s.attempts_sets_rfs as ha) he, fun w j _ => exec_busy j _ rfl⟩
  rw [returned_rets, hanswers, halike.1]

/-- Settles O47: no move reads `CFG_DUMP` but to decide what the trace port is given. -/
theorem frameDumpIsASideChannel : Obligations.FrameDumpIsASideChannel := by
  intro i s b
  rcases Bool.eq_false_or_eq_true s.busy with hb | hb
  · exact ⟨_, _, exec_busy i s hb, exec_busy i _ hb, rfl⟩
  · have hstart : SameBut True False (s.setBusy true) (State.setBusy true { s with cfgDump := b }) :=
      ⟨s.rfs, s.freeReads, s.rets, b, s.trace, rfl, fun _ => ⟨rfl, rfl, rfl⟩, False.elim⟩
    exact ⟨_, _, exec_idle i s hb, exec_idle i _ hb,
      (sameBut_moves.instrOp i _ _ hstart).returned.eq_of_sameAnswers trivial⟩

/-! ### Two runs that agree on `CFG_ADDR`, `SESS` and the channel (R14, R89) -/

/-- The two machines agree on the address, the session and the channel's coming answers, and have added the same to the records
they started with. -/
structure SameOutside (start start' : List ChanEvent) (a b : State) : Prop where
  cfgAddr : a.cfgAddr = b.cfgAddr
  sess : a.sess = b.sess
  chanIn : a.chanIn = b.chanIn
  reads : a.reads = b.reads
  log : ∃ log, a.chanLog = start ++ log ∧ b.chanLog = start' ++ log

section

variable {start start' : List ChanEvent} {a b : State}

theorem SameOutside.chanReply (h : SameOutside start start' a b) : a.chanReply = b.chanReply := by
  simp only [State.chanReply, h.chanIn, h.reads]

/-- An operation that does not use the channel leaves all five as they were. -/
theorem SameOutside.same {a' b' : State} (h : SameOutside start start' a b) (ha : SameButData a' a)
    (hb : SameButData b' b) : SameOutside start start' a' b' where
  cfgAddr := by rw [ha.cfgAddr, hb.cfgAddr, h.cfgAddr]
  sess := by rw [ha.sess, hb.sess, h.sess]
  chanIn := by rw [ha.chanIn, hb.chanIn, h.chanIn]
  reads := by rw [ha.reads, hb.reads, h.reads]
  log := by rw [ha.chanLog, hb.chanLog]; exact h.log

theorem SameOutside.exchanged (h : SameOutside start start' a b) (payload : List Byte) (v : Variant) (t : Timeout) :
    SameOutside start start' (a.exchanged payload v t) (b.exchanged payload v t) where
  cfgAddr := h.cfgAddr
  sess := h.sess
  chanIn := congrArg List.tail h.chanIn
  reads := congrArg (· + 1) h.reads
  log := by
    obtain ⟨log, ha, hb⟩ := h.log
    refine ⟨log ++ [.write (frameOf (b.cfgAddr :: payload)), .settle, .read t b.chanReply], ?_, ?_⟩
    · simp [State.exchanged, ha, h.cfgAddr, h.chanReply]
    · simp [State.exchanged, hb]

end

theorem sameOutside_moves (start start' : List ChanEvent) : RelatedByMoves (SameOutside start start') where
  reply _ _ h := h.chanReply
  sess _ _ h := h.sess
  pure i a b hi h := ⟨instrOp_outcome i a b hi h.cfgAddr, h.same (instrOp_same i a hi) (instrOp_same i b hi)⟩
  refused _ _ h := { h with }
  start _ _ h := { h with }
  step _ _ _ h := { h with }
  setSess _ _ _ h := { h with sess := rfl }
  exchanged payload v t _ _ h := h.exchanged payload v t
  delivered _ _ _ _ h := { h with }
  failed payload v t _ _ _ h := { h.exchanged payload v t with sess := rfl }

/-- Settles O49: every move keeps the agreement, and what it returns and sends depends on nothing else. -/
theorem noHiddenAccumulatingState : Obligations.NoHiddenAccumulatingState := by
  intro i s s' hbusy haddr hsess hin hreads
  cases hb : s.busy with
  | true =>
    exact ⟨_, _, [], exec_busy i s hb, exec_busy i s' (hbusy ▸ hb), by simp [State.refusedWith, State.lastRet], hsess,
      (List.append_nil _).symm, (List.append_nil _).symm⟩
  | false =>
    have hstart : SameOutside s.chanLog s'.chanLog (s.setBusy true) (s'.setBusy true) :=
      ⟨haddr, hsess, hin, hreads, [], (List.append_nil _).symm, (List.append_nil _).symm⟩
    obtain ⟨hout, hend⟩ := (sameOutside_moves _ _).instrOp i _ _ hstart
    obtain ⟨log, hlog, hlog'⟩ := hend.log
    exact ⟨_, _, log, exec_idle i s hb, exec_idle i s' (hbusy ▸ hb), by rw [returned_lastRet, returned_lastRet, hout],
      hend.sess, hlog, hlog'⟩

/-! ### The tables and the port -/

/-- The measurement whose group result register `r` is in (R25). -/
def measAt (r : Nat) : Meas :=
  (allMeas.find? fun m => decide (measDest m ≤ r ∧ r < measDest m + measCount m)).getD .u

/-- The groups cover the 34 registers, and the scale of a register is its measurement's. -/
theorem measAt_spec : ∀ r : Fin 34,
    (measDest (measAt r.val) ≤ r.val ∧ r.val < measDest (measAt r.val) + measCount (measAt r.val)) ∧
      resScale r.val = if measAt r.val = .u ∨ measAt r.val = .freq ∨ measAt r.val = .angle then 100 else 1000 := by
  decide

/-- Settles O9: the table's entries are the literals; the groups cover the registers (`measAt_spec`) and are disjoint
(`measDest_disjoint`). -/
theorem resultScalesFollowTheMeasurement : Obligations.ResultScalesFollowTheMeasurement := by
  refine ⟨⟨rfl, rfl⟩, ⟨rfl, rfl⟩, ⟨rfl, rfl⟩, ⟨rfl, rfl⟩, ⟨rfl, rfl⟩, ⟨rfl, rfl⟩, ⟨rfl, rfl⟩, ⟨rfl, rfl⟩, ⟨rfl, rfl⟩,
    ⟨rfl, rfl⟩, fun r => ?_⟩
  obtain ⟨hgroup, hscale⟩ := measAt_spec r
  refine ⟨measAt r.val, hgroup, hscale, fun n hn => ?_⟩
  by_contra hne
  exact measDest_disjoint n (measAt r.val) hne r.val hn hgroup

/-- Settles O30: `BUSY` is looked at before anything of the operation. -/
theorem busyRefusesEveryOperation : Obligations.BusyRefusesEveryOperation := exec_busy

/-- A transfer that encodes an operation runs it, after what the host attempts. -/
theorem runIssue_of_decode {w : PortWord} {i : Instr} (h : decode w = .ok i) (as : List Attempt) (s : State) :
    runIssue w as s = exec i (s.attempts as) := by
  simp only [runIssue, h]

/-- Settles O50: the step takes the issue off the port and runs it; no attempts leave the state as it was. -/
theorem stepRunsTheDecodedInstruction : Obligations.StepRunsTheDecodedInstruction := by
  intro s w i rest hd
  refine ⟨fun as hp => ?_, fun hp => ?_⟩
  · rw [step_cons hp]
    exact runIssue_of_decode hd as _
  · rw [step_cons hp]
    exact runIssue_of_decode hd [] _

end Sys2Proof.Machine

/-! # Proofs: the encoding (30_encoding.md)

The words of a transfer and back, the frames the builders leave and which of them reach the channel, the fields of a
reply, the operands outside their domains. -/

namespace Sys2Proof.Machine

/-! ### Decoding what was encoded (R57, R59, R62, R78) -/

/-- With a byte for each unit of `fuel` there are bytes enough for every number up to `fuel`. -/
theorem natOfBytes_bytesOfNatAux (fuel n : Nat) (h : n ≤ fuel) : natOfBytes (bytesOfNatAux fuel n) = n := by
  induction fuel generalizing n with
  | zero => exact (Nat.le_zero.mp h).symm
  | succ fuel ih =>
    by_cases hn : n = 0
    · simp [bytesOfNatAux, natOfBytes, hn]
    · have hrest : natOfBytes (bytesOfNatAux fuel (n / 256)) = n / 256 := ih _ (by omega)
      simp only [bytesOfNatAux, hn, if_false, natOfBytes, hrest, BitVec.toNat_ofNat]
      omega

/-- A `scale` operand is read back from its bytes (log 2). -/
@[simp] theorem natOfBytes_bytesOfNat (n : Nat) : natOfBytes (bytesOfNat n) = n :=
  natOfBytes_bytesOfNatAux n n le_rfl

/-- A read-current-values frame whose sub-index selects no quantity is the generic frame (R61). -/
theorem decodeCurval_of_not_mem (paramId subIndex : Byte) (h : subIndex ∉ curvalSubIndexes) :
    decodeCurval paramId subIndex = .frameRead 0x08 paramId subIndex := by
  unfold decodeCurval
  split
  case h_8 => rfl
  all_goals exact absurd (by decide) h

/-- A generic ReadParameter frame that is no row's of its own is told apart by its three bytes, whatever stands in place of
address and CRC (R78). -/
theorem decodeFrameOut_frameRead (addr cmd paramId subIndex lo hi : Byte) (h : genericReadOk cmd subIndex = true) :
    decodeFrameOut [addr, cmd, paramId, subIndex, lo, hi] = .ok (.frameRead cmd paramId subIndex) := by
  by_cases hcmd : cmd = 0x08
  · subst hcmd
    have hsub : subIndex ∉ curvalSubIndexes := by simpa [genericReadOk] using h
    simp only [decodeFrameOut, if_true, decodeCurval_of_not_mem paramId subIndex hsub]
  · simp only [decodeFrameOut, hcmd, if_false]

/-- Settles O53, by the instruction. Three kinds of operand need a lemma: a scale (`natOfBytes_bytesOfNat`), the bytes of
a generic frame (`decodeFrameOut_frameRead`), the CRC field of a reply (`le16_lo8_hi8`). -/
theorem decodeOfEncodeIsIdentity : Obligations.DecodeOfEncodeIsIdentity := by
  intro i hwf
  cases i
  case decode3 b0 b1 b2 scale =>
    exact congrArg (fun n => Except.ok (Instr.decode3 b0 b1 b2 n)) (natOfBytes_bytesOfNat scale)
  case decode4 b0 b1 b2 b3 scale =>
    exact congrArg (fun n => Except.ok (Instr.decode4 b0 b1 b2 b3 n)) (natOfBytes_bytesOfNat scale)
  case frameRead cmd paramId subIndex => exact decodeFrameOut_frameRead 0 cmd paramId subIndex 0 0 hwf
  case vStatus addr status crc => exact congrArg (fun c => Except.ok (Instr.vStatus addr status c)) (le16_lo8_hi8 crc)
  case vTriple addr value crc => exact congrArg (fun c => Except.ok (Instr.vTriple addr value c)) (le16_lo8_hi8 crc)
  case vTriple3 addr p1 p2 p3 crc =>
    exact congrArg (fun c => Except.ok (Instr.vTriple3 addr p1 p2 p3 c)) (le16_lo8_hi8 crc)
  case vSumTriple3 addr sum p1 p2 p3 crc =>
    exact congrArg (fun c => Except.ok (Instr.vSumTriple3 addr sum p1 p2 p3 c)) (le16_lo8_hi8 crc)
  case vSumQuad3 addr sum p1 p2 p3 crc =>
    exact congrArg (fun c => Except.ok (Instr.vSumQuad3 addr sum p1 p2 p3 c)) (le16_lo8_hi8 crc)
  all_goals rfl

/-- Settles O54: each word is decoded by the tables. -/
theorem tableWordsDecode : Obligations.TableWordsDecode :=
  ⟨rfl, rfl, rfl, rfl, rfl, rfl, rfl, rfl⟩

/-! ### The frames the builders leave (R102, log 9) -/

/-- A builder issued while none is in progress completes with its frame (R102). -/
theorem issue_buildOp (payload : List Byte) (s : State) (h : s.busy = false) :
    issue (buildOp payload) s = .next (s.builtWith payload) := by
  rw [issue_idle _ s h]
  simp only [buildOp, State.txBytes_build]
  simp only [returned, State.build, State.putTx, frameOf_length, State.giveBack, State.setBusy, State.builtWith]
  cases s
  cases h
  rfl

/-- An instruction that builds a frame completes with its frame (R103 to R114). -/
theorem exec_builtWith {i : Instr} {payload : List Byte} {s : State} (hb : s.busy = false)
    (hp : builderPayload i = some payload) : exec i s = .next (s.builtWith payload) := by
  rw [exec_of_builderPayload i payload s hp, issue_buildOp payload s hb]

/-- Settles O11: a frame's word is one of the instructions that build a frame. -/
theorem frameWordsBuildTheirFrames : Obligations.FrameWordsBuildTheirFrames :=
  fun _ _ _ _ _ hb _ hp => exec_builtWith hb hp

/-- What a build leaves in `TX` is the frame. -/
@[simp] theorem State.txBytes_builtWith (payload : List Byte) (s : State) :
    (s.builtWith payload).txBytes = frameOf (s.cfgAddr :: payload) := by
  rw [← Memory.bytes_ofBytes (frameOf (s.cfgAddr :: payload)), frameOf_length]
  rfl

/-- A frame with its computed CRC passes the CRC check (R91, R119). -/
theorem crcOk_frameOf (body : List Byte) : crcOk (frameOf body) = true := by
  rw [frameOf, crcBytes, crcOk_append, le16_lo8_hi8, beq_self_eq_true]

/-- The frame that an outgoing frame's word builds, whatever stands in place of address and CRC, is told apart as that frame
(R78). -/
theorem decode_frame_of_encode_frameOut {i : Instr} {bytes : List Byte} (hwf : i.wellFormed = true)
    (h : encode i = .frameOut bytes) :
    ∃ payload, builderPayload i = some payload ∧
      ∀ addr lo hi, decode (.frameOut (addr :: payload ++ [lo, hi])) = .ok i := by
  cases i
  case frameRead cmd paramId subIndex =>
    exact ⟨_, rfl, fun addr lo hi => decodeFrameOut_frameRead addr cmd paramId subIndex lo hi hwf⟩
  case frameTest | frameInit | frameClose | frameReadU | frameReadI | frameReadCosf | frameReadFreq | frameReadAngle |
      frameReadP | frameReadQ =>
    exact ⟨_, rfl, fun _ _ _ => rfl⟩
  all_goals cases h

/-- The words with a period told are the energy frames (R63). -/
theorem eq_energyFrame_of_encode_energyOut {i : Instr} {period : Period} {bytes : List Byte}
    (h : encode i = .energyOut period bytes) : i = energyFrame period := by
  cases i
  case frameReadEReset | frameReadEYday | frameReadEToday => cases h; rfl
  all_goals cases h

/-- An energy frame carries command 0x05 and two bytes whose values the spec leaves to parameters (R63, R114). -/
theorem builderPayload_energyFrame (period : Period) :
    ∃ paramId subIndex, builderPayload (energyFrame period) = some [0x05, paramId, subIndex] := by
  cases period
  case reset | yesterday | today => exact ⟨_, _, rfl⟩

/-- Settles O13: the word's frame is built (`exec_builtWith`), its CRC is the computed one, and the decoder looks only
at its length and payload. -/
theorem builtFrameDecodesAsItself : Obligations.BuiltFrameDecodesAsItself := by
  intro i s hb hwf
  refine ⟨fun bytes h => ?_, fun period bytes h => ?_⟩
  · obtain ⟨payload, hp, hdec⟩ := decode_frame_of_encode_frameOut hwf h
    refine ⟨_, exec_builtWith hb hp, ?_⟩
    rw [State.txBytes_builtWith]
    exact ⟨crcOk_frameOf _, hdec _ _ _⟩
  · obtain rfl := eq_energyFrame_of_encode_energyOut h
    obtain ⟨paramId, subIndex, hp⟩ := builderPayload_energyFrame period
    refine ⟨_, exec_builtWith hb hp, ?_⟩
    rw [State.txBytes_builtWith]
    exact ⟨crcOk_frameOf _, rfl, paramId, subIndex, rfl⟩

/-! ### The frames that reach the channel (R52, R70) -/

theorem framesWritten_append (a b : List ChanEvent) : framesWritten (a ++ b) = framesWritten a ++ framesWritten b :=
  List.filterMap_append

/-- From `s` on, with `CFG_ADDR` as it was, nothing but frames of the session has been written. -/
structure SentOnlySession (s t : State) : Prop where
  cfgAddr : t.cfgAddr = s.cfgAddr
  log : ∃ log, t.chanLog = s.chanLog ++ log ∧ ∀ frame ∈ framesWritten log, frame ∈ sessionFrames s.cfgAddr

theorem SentOnlySession.refl (s : State) : SentOnlySession s s :=
  ⟨rfl, [], (List.append_nil _).symm, by simp [framesWritten]⟩

/-- An exchange writes one frame: `CFG_ADDR`, the payload and the CRC (R130). -/
theorem SentOnlySession.exchanged {s x : State} (h : SentOnlySession s x) {payload : List Byte}
    (hp : payload ∈ sessionPayloads) (v : Variant) (t : Timeout) : SentOnlySession s (x.exchanged payload v t) := by
  obtain ⟨haddr, log, hlog, hframes⟩ := h
  refine ⟨haddr, log ++ [.write (frameOf (x.cfgAddr :: payload)), .settle, .read t x.chanReply], ?_, fun frame hf => ?_⟩
  · rw [← List.append_assoc, ← hlog]
    rfl
  · rw [framesWritten_append, List.mem_append] at hf
    rcases hf with hf | hf
    · exact hframes frame hf
    · obtain rfl : frame = frameOf (x.cfgAddr :: payload) := by simpa [framesWritten] using hf
      rw [haddr]
      exact List.mem_map_of_mem hp

/-- Every move of an operation writes a frame of the session or none. -/
theorem sentOnlySession_keptByMoves (s : State) : KeptByMoves (SentOnlySession s) where
  pure i x hi h :=
    have hs := instrOp_same i x hi
    ⟨hs.cfgAddr.trans h.cfgAddr, hs.chanLog ▸ h.log⟩
  refused _ h := { h with }
  start _ h := { h with }
  step _ _ _ h := { h with }
  passed _ t _ _ hp h := { h.exchanged hp .status t with }
  read m _ h := { h.exchanged (measPayload_mem m) (measVariant m) .reply with }
  failed _ v t _ _ hp _ h := { h.exchanged hp v t with }

/-- Settles O48: by the moves of an operation (`KeptByMoves`). -/
theorem onlySessionFramesAreSent : Obligations.OnlySessionFramesAreSent := fun _ s _ he =>
  ((sentOnlySession_keptByMoves s).exec (fun _ _ h => { h with }) (fun _ _ h => { h with }) (.refl s) he).log

/-! ### The fields of a reply (R66) -/

/-- Settles O7: the integer is a sum of the bytes at different weights (`tripleRaw_toNat`, `quadRaw_toNat`), and each byte is
below 256. -/
theorem decodersLoseNoBit : Obligations.DecodersLoseNoBit := by
  refine ⟨fun x y h => ?_, fun x y h => ?_⟩
  · obtain ⟨x0, x1, x2⟩ := x
    obtain ⟨y0, y1, y2⟩ := y
    have hsum := congrArg BitVec.toNat h
    rw [tripleRaw_toNat, tripleRaw_toNat] at hsum
    obtain rfl : x0 = y0 := by bv_omega
    obtain rfl : x1 = y1 := by bv_omega
    obtain rfl : x2 = y2 := by bv_omega
    rfl
  · obtain ⟨x0, x1, x2, x3⟩ := x
    obtain ⟨y0, y1, y2, y3⟩ := y
    have hsum := congrArg BitVec.toNat h
    rw [quadRaw_toNat, quadRaw_toNat] at hsum
    obtain rfl : x0 = y0 := by bv_omega
    obtain rfl : x1 = y1 := by bv_omega
    obtain rfl : x2 = y2 := by bv_omega
    obtain rfl : x3 = y3 := by bv_omega
    rfl

/-! ### Operands outside their domains (R72) -/

/-- An instruction whose operation refuses, issued while none is in progress, is refused. -/
theorem exec_of_refuse {i : Instr} {r : RefuseReason} {s : State} (hb : s.busy = false)
    (h : instrOp i (s.setBusy true) = refuse r (s.setBusy true)) : exec i s = .next (s.refusedWith r) := by
  rw [exec_idle i s hb, h, returned_refuse r s hb]

/-- A code above 4 names no variant (R77). -/
theorem variantOfCode_of_gt : ∀ v : Byte, 4 < v.toNat → variantOfCode v = none := by decide

/-- A selector outside 1 to 10 names no measurement (R77). -/
theorem measOfCode_of_outside : ∀ m : Byte, m.toNat = 0 ∨ 10 < m.toNat → measOfCode m = none := by decide

/-- `VALIDATE` outside its operands' domains is refused (R72, R117). -/
theorem validateCodeOp_bad (v : Byte) (buffer : List Byte) (s : State) (h : 4 < v.toNat ∨ 32 < buffer.length) :
    validateCodeOp v buffer s = refuse .badOperand s := by
  unfold validateCodeOp
  cases hv : variantOfCode v with
  | none => rfl
  | some x =>
    have hlong : ¬buffer.length ≤ Config.rxMax := by
      rcases h with h | h
      · simp [variantOfCode_of_gt v h] at hv
      · exact Nat.not_le_of_lt h
    exact if_neg hlong

/-- Settles O29: each of these operations does nothing but refuse. -/
theorem reservedAndBadOperandsAreRefused : Obligations.ReservedAndBadOperandsAreRefused := by
  intro s hb
  refine ⟨fun i hi => ?_, fun v buffer h => ?_, fun m h => ?_, fun bytes h => ?_, fun b0 b1 b2 b3 => ⟨?_, ?_⟩⟩
  · rcases hi with rfl | rfl | rfl
    case inl | inr.inl | inr.inr => exact exec_of_refuse hb rfl
  · exact exec_of_refuse hb (validateCodeOp_bad v buffer _ h)
  · exact exec_of_refuse hb (by simp only [instrOp, readCodeOp, measOfCode_of_outside m h])
  · have hlong : ¬portCarries bytes.length = true := by rw [portCarries_iff]; exact Nat.not_le_of_lt h
    exact exec_of_refuse hb (if_neg hlong)
  · exact exec_of_refuse hb rfl
  · exact exec_of_refuse hb rfl

end Sys2Proof.Machine

/-! # Proofs: the CRC Engine (40_crc.md)

The byte step as an iteration of the bit step, the operation `CRC16`, and the residue: a frame passes the CRC check exactly
when the CRC of all its bytes is zero, so a change of one byte, which no CRC misses, fails the check. -/

namespace Sys2Proof.Machine

/-! ### The algorithm and its operation (R84 to R88) -/

theorem crcBits_eq_iterate (n : Nat) (c : U16) : crcBits n c = crcBit^[n] c := by
  induction n generalizing c with
  | zero => rfl
  | succ n ih => exact ih (crcBit c)

/-- One byte more is one byte step more (R85, R86). -/
theorem crc16_concat (bytes : List Byte) (b : Byte) : crc16 (bytes ++ [b]) = crcByte (crc16 bytes) b :=
  crc16_append bytes [b]

/-- Settles O1: the last byte's step (`crc16_concat`) is eight bit steps (`crcBits_eq_iterate`), and the statement's bit step
is `crcBit` with its constant written out. -/
theorem crc16IsTheModbusAlgorithm : Obligations.Crc16IsTheModbusAlgorithm :=
  ⟨rfl, fun bytes b => (crc16_concat bytes b).trans (crcBits_eq_iterate 8 (crc16 bytes ^^^ b.setWidth 16))⟩

/-- `CRC16` on a sequence the host port carries is the CRC operation (R84). -/
theorem crc16Op_of_le_portMax {bytes : List Byte} (h : bytes.length ≤ Config.portMax) (s : State) :
    crc16Op bytes s = (.ok (.u16 (crc16 bytes)), s.runCrc bytes) :=
  if_pos ((portCarries_iff _).mpr h)

/-- Settles O2: the operation's one write is `CRC`, and its return gives the outcome back. -/
theorem crc16CompletesWithChecksum : Obligations.Crc16CompletesWithChecksum := by
  intro bytes s hbusy hlen
  rw [exec_idle _ s hbusy, instrOp, crc16Op_of_le_portMax hlen]
  cases s
  cases hbusy
  rfl

/-! ### The residue (R91 (b)) -/

/-- While the bits that leave the register are zero, the bit steps are shifts: the polynomial never comes in (R87). -/
theorem crcBits_eq_shift (n : Nat) (c : U16) (h : ∀ i < n, c.getLsbD i = false) : crcBits n c = c >>> n := by
  induction n generalizing c with
  | zero => simp [crcBits]
  | succ n ih =>
    have hbit : crcBit c = c >>> 1 := if_neg (by rw [h 0 n.succ_pos]; decide)
    have hrest : ∀ i < n, (c >>> 1).getLsbD i = false := fun i hi => by
      simpa [Nat.add_comm] using h (i + 1) (Nat.succ_lt_succ hi)
    rw [crcBits, hbit, ih _ hrest, ← BitVec.shiftRight_add, Nat.add_comm]

/-- The register's own low byte cancels, so its byte step only moves the high byte down. -/
theorem crcByte_lo8 (c : U16) : crcByte c (lo8 c) = c >>> 8 := by
  have hlow : ∀ i < 8, (c ^^^ (lo8 c).setWidth 16).getLsbD i = false := fun i hi => by
    simp [lo8, hi, Nat.lt_trans hi (by decide : 8 < 16)]
  rw [crcByte, crcBits_eq_shift 8 _ hlow]
  apply BitVec.eq_of_getLsbD_eq
  intro i _
  simp [lo8]

/-- A register that holds one byte is cancelled by that byte. -/
theorem crcByte_shift_hi8 (c : U16) : crcByte (c >>> 8) (hi8 c) = 0 := by
  have hcancel : c >>> 8 ^^^ (hi8 c).setWidth 16 = 0 := by
    apply BitVec.eq_of_getLsbD_eq
    intro i hi
    have hhigh : (c >>> 8).getLsbD i = true → i < 8 := fun h => by
      have := BitVec.lt_of_getLsbD (BitVec.getLsbD_ushiftRight c 8 i ▸ h)
      omega
    simpa [hi8, hi] using hhigh
  rw [crcByte, hcancel, crcBits_eq_shift 8 0 (by simp)]
  rfl

/-- The two bytes of a register, low byte first, bring it to zero. -/
theorem crc_foldl_crcBytes (c : U16) : (crcBytes c).foldl crcByte c = 0 := by
  simp only [crcBytes, List.foldl_cons, List.foldl_nil, crcByte_lo8, crcByte_shift_hi8]

/-- The CRC of a whole frame is zero (R91). -/
theorem crc16_frameOf (body : List Byte) : crc16 (frameOf body) = 0 := by
  rw [frameOf, crc16_append, crc_foldl_crcBytes]

/-- Settles O3: the statement's two bytes are the frame's CRC field (`crc16_frameOf`). -/
theorem frameResidueIsZero : Obligations.FrameResidueIsZero := crc16_frameOf

/-! ### The check by the residue, and a changed byte (R91 (a) and (c), R119) -/

theorem crcBytes_le16 (lo hi : Byte) : crcBytes (le16 lo hi) = [lo, hi] := by
  rw [crcBytes, lo8_le16, hi8_le16]

/-- The check on a body and a trailer by the CRC of all the bytes: only the register that the trailer spells is brought to
zero by it. -/
theorem crcOk_append_iff (body : List Byte) (lo hi : Byte) :
    crcOk (body ++ [lo, hi]) = true ↔ crc16 (body ++ [lo, hi]) = 0 := by
  have hzero : [lo, hi].foldl crcByte (le16 lo hi) = 0 := crcBytes_le16 lo hi ▸ crc_foldl_crcBytes (le16 lo hi)
  rw [crcOk_append, beq_iff_eq, crc16_append]
  exact ⟨fun h => h ▸ hzero, fun h => crc_foldl_injective [lo, hi] _ _ (h.trans hzero.symm)⟩

/-- Bytes with room for a CRC field pass the check exactly when the CRC of all of them is zero. -/
theorem crcOk_iff_crc16_eq_zero (bytes : List Byte) (h : 2 ≤ bytes.length) : crcOk bytes = true ↔ crc16 bytes = 0 := by
  have htrailer : (bytes.drop (bytes.length - 2)).length = 2 := by simp; omega
  obtain ⟨lo, hi, hdrop⟩ := List.length_eq_two.mp htrailer
  rw [← List.take_append_drop (bytes.length - 2) bytes, hdrop]
  exact crcOk_append_iff _ lo hi

/-- Another value in the place of one byte gives another CRC: the registers differ after that byte (`crcByte_injective`) and
stay different (`crc_foldl_injective`). -/
theorem crc16_set_ne {bytes : List Byte} {i : Nat} (hi : i < bytes.length) {b : Byte} (hb : b ≠ bytes[i]) :
    crc16 (bytes.set i b) ≠ crc16 bytes := by
  intro h
  have hsplit : bytes = bytes.take i ++ bytes[i] :: bytes.drop (i + 1) := by simp
  rw [List.set_eq_take_append_cons_drop, if_pos hi] at h
  conv at h => rhs; rw [hsplit]
  rw [crc16_append, crc16_append] at h
  exact hb (crcByte_injective _ _ _ (crc_foldl_injective _ _ _ h))

/-- A flipped bit is a changed byte. -/
theorem xor_bit_ne (b : Byte) {k : Nat} (hk : k < 8) : b ^^^ (1#8 <<< k) ≠ b := by
  have hbit : ∀ k < 8, (1#8 <<< k) ≠ 0#8 := by decide
  simpa using hbit k hk

/-- Settles O4: the frame's CRC is zero (`crc16_frameOf`), a flip changes it (`crc16_set_ne`), and the check is that it is
zero. -/
theorem singleBitFlipFailsCrcCheck : Obligations.SingleBitFlipFailsCrcCheck := by
  intro P
  refine ⟨crcOk_frameOf P, fun i k hi hk => ?_⟩
  have hbyte : (frameOf P).getD i 0 ^^^ (1#8 <<< k) ≠ (frameOf P)[i] := by
    rw [List.getD_eq_getElem _ _ hi]
    exact xor_bit_ne _ hk
  have hlen : 2 ≤ (flipBit (frameOf P) i k).length := by simp [flipBit]
  rw [← Bool.not_eq_true, crcOk_iff_crc16_eq_zero _ hlen, ← crc16_frameOf P]
  exact crc16_set_ne hi hbyte

end Sys2Proof.Machine

/-! # Proofs: the Value Decoders (41_decoders.md)

What a decode returns, said once for both decoders (an exact pair, or a refusal for scale 0), and the value of a pair. -/

namespace Sys2Proof.Machine

/-! ### The pair a decoder returns (R93, R94, R97) -/

/-- An answer of an operation that writes no register, returned. -/
theorem returned_answer (r : OpResult) (s : State) (h : s.busy = false) :
    returned (r, s.setBusy true) = { s with rets := s.rets ++ [r] } := by
  cases s
  cases h
  rfl

/-- A decode with a scale other than 0 answers with the exact pair and writes nothing (R95, R98). -/
theorem decodeOp_of_ne_zero (raw : Nat) {scale : Nat} (h : scale ≠ 0) (s : State) :
    decodeOp raw scale s = (.ok (.scaled raw scale), s) :=
  if_neg h

/-- A decode with scale 0 does nothing but refuse (R97). -/
theorem decodeOp_zero (raw : Nat) (s : State) : decodeOp raw 0 s = refuse .scaleZero s := rfl

/-- An instruction whose operation is a decode, issued while none is in progress: the pair, or the refusal for scale 0. -/
theorem exec_of_decodeOp {i : Instr} {raw scale : Nat} {s : State} (hb : s.busy = false)
    (hi : instrOp i = decodeOp raw scale) :
    (scale ≠ 0 → exec i s = .next { s with rets := s.rets ++ [.ok (.scaled raw scale)] }) ∧
      (scale = 0 → exec i s = .next (s.refusedWith .scaleZero)) := by
  refine ⟨fun hscale => ?_, fun hscale => ?_⟩
  · rw [exec_idle i s hb, hi, decodeOp_of_ne_zero raw hscale, returned_answer _ s hb]
  · subst hscale
    exact exec_of_refuse hb (by rw [hi, decodeOp_zero])

/-- Settles O5: the instruction is a decode (`exec_of_decodeOp`) of the integer its three bytes spell (`tripleRaw_toNat`). -/
theorem decode3ReturnsExactPair : Obligations.Decode3ReturnsExactPair := by
  intro b0 b1 b2 scale s hb
  rw [← tripleRaw_toNat ⟨b0, b1, b2⟩]
  exact exec_of_decodeOp hb rfl

/-- Settles O6: the instruction is a decode (`exec_of_decodeOp`) of the integer its four bytes spell (`quadRaw_toNat`). -/
theorem decode4ReturnsExactPair : Obligations.Decode4ReturnsExactPair := by
  intro b0 b1 b2 b3 scale s hb
  rw [← quadRaw_toNat ⟨b0, b1, b2, b3⟩]
  exact exec_of_decodeOp hb rfl

/-! ### The value of a pair (R95, R101) -/

/-- Settles O8: the value is the quotient in the rationals, where a scale other than 0 cancels. -/
theorem scaledValueIsExactQuotient : Obligations.ScaledValueIsExactQuotient :=
  fun _ _ hscale => div_mul_cancel₀ _ (Nat.cast_ne_zero.mpr hscale)

end Sys2Proof.Machine

/-! # Proofs: the Frame Codec, build side (42_frame_build.md)

The four builders are instructions that build a frame, so `exec_builtWith` says what each leaves; the length of the frame
is that of the builder's payload. -/

namespace Sys2Proof.Machine

/-! ### The four builders (R103 to R106) -/

/-- The payload of `BUILD_INIT`, its password written out: byte 0 at offset 3 of the frame, byte 5 at offset 8 (R104). -/
theorem builderPayload_buildInit :
    builderPayload .buildInit =
      some [0x01, Config.accessLevel, Config.password 0, Config.password 1, Config.password 2, Config.password 3,
        Config.password 4, Config.password 5] := rfl

/-- Settles O10: each builder completes with the frame of its payload (`exec_builtWith`). -/
theorem buildersLeaveTheirFrame : Obligations.BuildersLeaveTheirFrame := fun _ hb =>
  ⟨exec_builtWith hb rfl, exec_builtWith hb builderPayload_buildInit, exec_builtWith hb rfl,
    fun _ _ _ => exec_builtWith hb rfl⟩

/-! ### The lengths of the built frames (R115) -/

/-- Address and CRC make a built frame three bytes longer than its payload, whatever the state before (R102). -/
theorem State.builtWith_txLen (payload : List Byte) (s : State) : (s.builtWith payload).txLen = payload.length + 3 := rfl

/-- A builder whose payload has `n` bytes leaves `TXLEN` = `n + 3`. -/
theorem exec_builtWith_txLen {i : Instr} {payload : List Byte} {s : State} (hb : s.busy = false)
    (hp : builderPayload i = some payload) : ∃ t, exec i s = .next t ∧ t.txLen = payload.length + 3 :=
  ⟨_, exec_builtWith hb hp, s.builtWith_txLen payload⟩

/-- Settles O12: the four payloads have 1, 8, 1 and 3 bytes, and address and CRC are three more (`exec_builtWith_txLen`). -/
theorem builtFramesHaveFixedLengths : Obligations.BuiltFramesHaveFixedLengths := fun _ hb =>
  ⟨exec_builtWith_txLen (payload := [0x00]) hb rfl, exec_builtWith_txLen hb builderPayload_buildInit,
    exec_builtWith_txLen (payload := [0x02]) hb rfl,
    fun cmd paramId subIndex => exec_builtWith_txLen (payload := [cmd, paramId, subIndex]) hb rfl⟩

end Sys2Proof.Machine

/-! # Proofs: the Frame Codec, validate side (43_frame_validate.md)

A buffer handed to `VALIDATE` is judged by the rules (`checkedResult_validate`). A reply's word hands over a body and a CRC
field: its size is right, so its CRC decides, and for a status reply then its status byte. -/

namespace Sys2Proof.Machine

/-! ### `VALIDATE` inside its operands' domains (R77, R117) -/

/-- The code of a variant names it (R77). -/
@[simp] theorem variantOfCode_variantCode (v : Variant) : variantOfCode (BitVec.ofNat 8 (variantCode v)) = some v := by
  cases v
  case status | triple | triple3 | sumTriple3 | sumQuad3 => rfl

/-- `VALIDATE` with a variant's code and a buffer of at most 32 bytes is the check against that variant. -/
theorem validateCodeOp_variantCode (v : Variant) {buffer : List Byte} (h : buffer.length ≤ 32) :
    validateCodeOp (BitVec.ofNat 8 (variantCode v)) buffer = validateOp v buffer := by
  funext s
  simp only [validateCodeOp, variantOfCode_variantCode]
  exact if_pos h

/-- Settles O14: the instruction is the check of the buffer (`validateCodeOp_variantCode`), whose writes `issue_validateOp`
says and whose outcome is the rules' (`checkedResult_validate`). -/
theorem validateJudgesByTheRules : Obligations.ValidateJudgesByTheRules := by
  intro v buffer s hb hlen
  rw [exec_eq_issue, instrOp, validateCodeOp_variantCode v hlen]
  have hissue := issue_validateOp v buffer s hb
  rw [checkedResult_validate] at hissue
  exact hissue

/-! ### Replies as words: a body and its CRC field (R119, log 10) -/

/-- The CRC check on a body and a CRC field. -/
theorem crcOk_append_crcBytes (body : List Byte) (c : U16) : crcOk (body ++ crcBytes c) = (crc16 body == c) := by
  rw [crcBytes, crcOk_append, le16_lo8_hi8]

/-- A reply of the right size is judged by its CRC, then, a status reply, by its status byte (R168). -/
theorem validate_append_crcBytes {v : Variant} {body : List Byte} (hsize : body.length + 2 = variantSize v) (c : U16) :
    validate v (body ++ crcBytes c) =
      if crc16 body ≠ c then .fail .wrongCrc
      else if v = .status ∧ statusCode (byteAt (body ++ crcBytes c) 1) ≠ 0 then
        .fail (.protocolError (statusCode (byteAt (body ++ crcBytes c) 1)))
      else .pass (parse v (body ++ crcBytes c)) := by
  have hsizeOk : sizeOk v (body ++ crcBytes c) = true := (sizeOk_iff v _).mpr (by rw [List.length_append]; exact hsize)
  simp only [validate, hsizeOk, crcOk_append_crcBytes, Bool.true_eq_false, if_false, beq_eq_false_iff_ne]

/-- A reply's word issued while no operation is in progress: the reply is in `RX`, its body's CRC in `CRC` (R117). -/
theorem exec_checkedWith {i : Instr} {v : Variant} {body : List Byte} {c : U16} {s : State} (hb : s.busy = false)
    (hi : instrOp i = validateOp v (body ++ crcBytes c)) (hsize : body.length + 2 = variantSize v) :
    exec i s = .next (s.checkedWith body c (checkedResult (validate v (body ++ crcBytes c)))) := by
  have hlen : (body ++ crcBytes c).length = body.length + 2 := List.length_append
  rw [exec_eq_issue, hi, issue_validateOp v _ s hb, hlen, if_pos hsize, if_pos hsize, Nat.add_sub_cancel, List.take_left]
  rfl

/-! ### A status reply (R65, R120, R121) -/

/-- A status byte's code is its low 4 bits, as a number. -/
theorem statusCode_eq_ofNat (b : Byte) : statusCode b = BitVec.ofNat 4 (b.toNat % 16) := by
  apply BitVec.eq_of_toNat_eq
  simp [statusCode]

/-- The code is 0 exactly when the low 4 bits are. -/
theorem statusCode_eq_zero_iff (b : Byte) : statusCode b = 0#4 ↔ b.toNat % 16 = 0 := by
  rw [← BitVec.toNat_inj, statusCode_eq_ofNat]
  simp

/-- Settles O15: the word is judged by its CRC, then by its status byte (`validate_append_crcBytes`), of which the code is the
low 4 bits. -/
theorem statusReplyUsesLowNibbleOnly : Obligations.StatusReplyUsesLowNibbleOnly := by
  intro addr status c s hb
  have hstatus : byteAt ([addr, status] ++ crcBytes c) 1 = status := rfl
  have hsize : [addr, status].length + 2 = variantSize .status := rfl
  rw [exec_checkedWith hb rfl hsize, validate_append_crcBytes hsize, hstatus, parse, hstatus, ← statusCode_eq_ofNat]
  simp only [← statusCode_eq_zero_iff]
  by_cases hcrc : crc16 [addr, status] = c
  · by_cases hcode : statusCode status = 0#4
    · simp [hcrc, hcode, checkedResult]
    · simp [hcrc, hcode, checkedResult]
  · simp [hcrc, checkedResult]

/-! ### The replies of triples and quads (R122 to R125) -/

/-- The word of any other reply: with its right CRC it returns its fields. -/
theorem exec_of_fieldsReply {i : Instr} {v : Variant} {body : List Byte} {c : U16} {r : Response} {s : State}
    (hb : s.busy = false) (hv : v ≠ .status) (hi : instrOp i = validateOp v (body ++ crcBytes c))
    (hsize : body.length + 2 = variantSize v) (hr : parse v (body ++ crcBytes c) = r) :
    exec i s =
      .next (s.checkedWith body c (if crc16 body = c then .ok (.response r) else .err .wrongCrc)) := by
  rw [exec_checkedWith hb hi hsize, validate_append_crcBytes hsize, hr]
  by_cases hcrc : crc16 body = c
  · simp [hcrc, hv, checkedResult]
  · simp [hcrc, checkedResult]

/-- Settles O16: each word is a reply of its variant, and its fields stand in its body in layout order. -/
theorem replyWordsReturnTheirFields : Obligations.ReplyWordsReturnTheirFields := fun _ _ _ hb =>
  ⟨fun _ => exec_of_fieldsReply (v := .triple) hb (by decide) rfl rfl rfl,
    fun _ _ _ => exec_of_fieldsReply (v := .triple3) hb (by decide) rfl rfl rfl,
    fun _ _ _ _ => exec_of_fieldsReply (v := .sumTriple3) hb (by decide) rfl rfl rfl,
    fun _ _ _ _ => exec_of_fieldsReply (v := .sumQuad3) hb (by decide) rfl rfl rfl⟩

/-! ### The reply's address (R47, R127) -/

/-- `VERIFY` on a reply that the rules reject: its error, and the abort (R132, R170). -/
theorem exec_verify_of_replyError_some {s : State} {e : ErrKind} (hb : s.busy = false)
    (h : replyError .status .channelTimeout s.chanReply = some e) :
    exec .verify s = .next ((s.exchanged [0x00] .status .ch).failedWith e) := by
  rw [exec_idle _ s hb, instrOp, verifyOp, concluded_exchange_fail _ _ _ _ _ _ e (s.setBusy true) rfl h,
    returned_exchangeFailed _ _ _ _ s hb]
  rfl

/-- `VERIFY` on a reply that the rules accept ends `Ok` in `ChannelVerified` (R132). -/
theorem exec_verify_of_replyError_none {s : State} (hb : s.busy = false)
    (h : replyError .status .channelTimeout s.chanReply = none) :
    exec .verify s =
      .next { s.exchanged [0x00] .status .ch with sess := .channelVerified, rets := s.rets ++ [.ok .done] } := by
  rw [exec_idle _ s hb, instrOp, verifyOp, concluded_exchange_pass _ _ _ _ _ _ (s.setBusy true) h, deliverNothing,
    returned_exchanged _ _ _ _ s hb]
  rfl

/-- Settles O17: the reply, which `CFG_ADDR` has no part in, decides the outcome and the flags. -/
theorem replyAddressIsNotCompared : Obligations.ReplyAddressIsNotCompared := by
  intro s a hb
  cases h : replyError .status .channelTimeout s.chanReply with
  | some e =>
    exact ⟨_, _, exec_verify_of_replyError_some hb h, exec_verify_of_replyError_some hb h, rfl, rfl, rfl, rfl⟩
  | none =>
    exact ⟨_, _, exec_verify_of_replyError_none hb h, exec_verify_of_replyError_none hb h, rfl, rfl, rfl, rfl⟩

end Sys2Proof.Machine

/-! # Proofs: the Transport Session (44_transport.md)

The whole next state of each transport operation first, from what its exchange comes to. Then how a transport operation can
end, said once (`TransportEnd`): the table of the session and the per-operation flags are read off it. The trace port last,
by the moves of an operation. -/

namespace Sys2Proof.Machine

/-! ### An operation that ends with its exchange, issued (R130, R170) -/

/-- An instruction whose exchange fails, issued while none is in progress: its error, and the abort. -/
theorem exec_of_exchangeFailed {i : Instr} {payload : List Byte} {v : Variant} {t : Timeout} {e : ErrKind} {s : State}
    (hb : s.busy = false) (hi : instrOp i (s.setBusy true) = (.err e, (s.setBusy true).exchangeFailed payload v t e)) :
    exec i s = .next ((s.exchanged payload v t).failedWith e) := by
  rw [exec_idle i s hb, hi, returned_exchangeFailed _ _ _ _ s hb]

/-- An instruction whose exchange passes and delivers nothing, issued while none is in progress: the session moves. -/
theorem exec_of_exchanged {i : Instr} {payload : List Byte} {v : Variant} {t : Timeout} {x : Session} {s : State}
    (hb : s.busy = false)
    (hi : instrOp i (s.setBusy true) = (.ok .done, ((s.setBusy true).exchanged payload v t).setSess x)) :
    exec i s = .next { s.exchanged payload v t with sess := x, rets := s.rets ++ [.ok .done] } := by
  rw [exec_idle i s hb, hi, returned_exchanged _ _ _ _ s hb]

/-! ### `VERIFY` and `CLOSE`: admitted in every session state (R132, R135, R140) -/

/-- A session test: admitted in every session state, it sends `payload`, and the status reply alone decides between `Ok` in
the session state `after` and the abort. -/
def SessionTest (i : Instr) (payload : List Byte) (t : Timeout) (silence : ErrKind) (after : Session) : Prop :=
  ∀ s : State, s.busy = false →
    (replyError .status silence s.chanReply = none →
      exec i s = .next { s.exchanged payload .status t with sess := after, rets := s.rets ++ [.ok .done] }) ∧
    (∀ e, replyError .status silence s.chanReply = some e →
      exec i s = .next ((s.exchanged payload .status t).failedWith e))

theorem verify_sessionTest : SessionTest .verify [0x00] .ch .channelTimeout .channelVerified := fun _ hb =>
  ⟨exec_verify_of_replyError_none hb, fun _ => exec_verify_of_replyError_some hb⟩

/-- The session is released before the exchange, and both ends of it write `SESS` again. -/
theorem close_sessionTest : SessionTest .close [0x02] .reply .midSessionTimeout .closed := fun s hb =>
  ⟨fun h => exec_of_exchanged hb (concluded_exchange_pass deliverNothing _ _ _ _ _ ((s.setBusy true).setSess .closed) h),
    fun e h => exec_of_exchangeFailed hb
      (concluded_exchange_fail _ _ _ _ _ _ e ((s.setBusy true).setSess .closed) rfl h)⟩

/-- Settles O18: `VERIFY` is a session test. -/
theorem verifyCompletes : Obligations.VerifyCompletes := verify_sessionTest

/-- Settles O22: `CLOSE` is a session test. -/
theorem closeCompletes : Obligations.CloseCompletes := close_sessionTest

@[simp] theorem State.failedWith_lastRet (e : ErrKind) (s : State) : (s.failedWith e).lastRet = some (.err e) := by
  simp [State.lastRet, State.failedWith]

/-- What an exchange leaves in `CRC` and the buffers and adds to the channel's record depends on `CFG_ADDR` and the reply
alone. -/
theorem State.exchanged_alike {s s' : State} (ha : s.cfgAddr = s'.cfgAddr) (hr : s.chanReply = s'.chanReply)
    (payload : List Byte) (v : Variant) (t : Timeout) :
    let x := s.exchanged payload v t
    let x' := s'.exchanged payload v t
    x.crc = x'.crc ∧ x.tx = x'.tx ∧ x.txLen = x'.txLen ∧ x.rx = x'.rx ∧ x.rxLen = x'.rxLen ∧
      x.chanLog.drop s.chanLog.length = x'.chanLog.drop s'.chanLog.length := by
  simp [State.exchanged, crcLeft, ha, hr]

/-- A session test behaves the same from any two states with the same `CFG_ADDR` and the same reply (R140). -/
theorem SessionTest.alike {i : Instr} {payload : List Byte} {t : Timeout} {silence : ErrKind} {after : Session}
    (k : SessionTest i payload t silence after) {s s' : State} (hb : s.busy = false) (hb' : s'.busy = false)
    (ha : s.cfgAddr = s'.cfgAddr) (hr : s.chanReply = s'.chanReply) :
    ∃ t t', exec i s = .next t ∧ exec i s' = .next t' ∧ t.lastRet = t'.lastRet ∧ t.err = t'.err ∧
      t.status = t'.status ∧ t.sess = t'.sess ∧ t.crc = t'.crc ∧ t.tx = t'.tx ∧ t.txLen = t'.txLen ∧ t.rx = t'.rx ∧
      t.rxLen = t'.rxLen ∧ t.chanLog.drop s.chanLog.length = t'.chanLog.drop s'.chanLog.length := by
  have hsame := State.exchanged_alike ha hr payload .status t
  cases h : replyError .status silence s.chanReply with
  | none =>
    exact ⟨_, _, (k s hb).1 h, (k s' hb').1 (hr ▸ h), by simp [State.lastRet], rfl, rfl, rfl, hsame⟩
  | some e =>
    exact ⟨_, _, (k s hb).2 e h, (k s' hb').2 e (hr ▸ h), by simp, rfl, rfl, rfl, hsame⟩

/-- Settles O24: both are session tests. -/
theorem verifyAndCloseAreIdempotent : Obligations.VerifyAndCloseAreIdempotent := by
  rintro i s s' (rfl | rfl) hb hb' ha hr
  · exact verify_sessionTest.alike hb hb' ha hr
  · exact close_sessionTest.alike hb hb' ha hr

/-! ### `INIT` (R133) -/

/-- Settles O19: where it is admitted its exchange decides; elsewhere it refuses. -/
theorem initCompletes : Obligations.InitCompletes := fun s hb =>
  ⟨fun hs h => exec_of_exchanged hb
      ((if_pos hs).trans (concluded_exchange_pass deliverNothing _ initPayload _ _ _ (s.setBusy true) h)),
    fun hs e h => exec_of_exchangeFailed hb
      ((if_pos hs).trans (concluded_exchange_fail _ _ initPayload _ _ _ e (s.setBusy true) rfl h)),
    fun hs => exec_of_refuse hb (if_neg hs)⟩

/-! ### `READ m` (R134, R142) -/

/-- A read that is admitted and whose reply passes: its group of `RES` is written and the session is `Reading` (R126). -/
theorem exec_isRead_of_replyError_none {i : Instr} {m : Meas} {s : State} (hi : isRead i m) (hb : s.busy = false)
    (hs : s.sess = .initialized ∨ s.sess = .reading)
    (h : replyError (measVariant m) .midSessionTimeout s.chanReply = none) :
    exec i s =
      .next { s.exchanged (measPayload m) (measVariant m) .reply with
        sess := .reading
        res := groupWritten (measDest m) (responseRaws (parse (measVariant m) s.chanReply)) s.res
        rets := s.rets ++ [.ok .done] } := by
  rw [exec_idle i s hb, instrOp_of_isRead i m _ hi, readOp, State.setBusy_sess, if_pos hs,
    concluded_exchange_pass _ _ _ _ _ _ (s.setBusy true) h]
  cases s
  cases hb
  rfl

/-- Settles O20: the delivered values are the reply's fields (`responseRaws_getD`), as many as the group is wide. -/
theorem readDeliversItsGroup : Obligations.ReadDeliversItsGroup := by
  intro i m s hi hb hs h
  refine ⟨_, exec_isRead_of_replyError_none hi hb hs h, rfl, fun r => ?_⟩
  simp only [groupWritten_getElem, responseRaws_length]
  refine ⟨fun hin => ?_, fun hout => if_neg hout⟩
  rw [if_pos hin, responseRaws_getD m _ _ (by omega)]

/-- Settles O21: where a read is admitted its failed exchange aborts; elsewhere it refuses. -/
theorem failedReadWritesNoResult : Obligations.FailedReadWritesNoResult := fun i m s hi hb =>
  have hop := instrOp_of_isRead i m (s.setBusy true) hi
  ⟨fun hs e h => exec_of_exchangeFailed hb
      (hop.trans ((if_pos hs).trans (concluded_exchange_fail _ _ _ _ _ _ e (s.setBusy true) rfl h))),
    fun hs => exec_of_refuse hb (hop.trans (if_neg hs))⟩

/-! ### How a transport operation ends (R130, R131, R145) -/

/-- The ends of a transport operation that is admitted where `admitted` holds and moves the session to `after`. -/
inductive TransportEnd (admitted : Prop) (after : Session) (s : State) : OpResult × State → Prop
  /-- in the wrong session state -/
  | refused (h : ¬admitted) : TransportEnd admitted after s (refuse .badSequence s)
  /-- by an exchange that fails (R170) -/
  | failed (payload : List Byte) (v : Variant) (t : Timeout) (e : ErrKind) :
      TransportEnd admitted after s (.err e, s.exchangeFailed payload v t e)
  /-- by an exchange that passes, with what it delivered to `RES` -/
  | passed (payload : List Byte) (v : Variant) (t : Timeout) (res : Vector U32 34) (h : admitted) :
      TransportEnd admitted after s (.ok .done, { s.exchanged payload v t with res := res, sess := after })

theorem verifyOp_end (s : State) : TransportEnd True .channelVerified s (verifyOp s) := by
  rcases verifyOp_cases s with ⟨e, -, h⟩ | ⟨-, h⟩ <;> rw [h]
  · exact .failed _ _ _ e
  · exact .passed _ _ _ s.res trivial

theorem initOp_end (s : State) : TransportEnd (s.sess = .channelVerified) .initialized s (initOp s) := by
  rcases initOp_cases s with ⟨hs, h⟩ | ⟨-, e, -, h⟩ | ⟨hs, -, h⟩ <;> rw [h]
  · exact .refused hs
  · exact .failed _ _ _ e
  · exact .passed _ _ _ s.res hs

theorem readOp_end (m : Meas) (s : State) :
    TransportEnd (s.sess = .initialized ∨ s.sess = .reading) .reading s (readOp m s) := by
  rcases readOp_cases m s with ⟨hs, h⟩ | ⟨-, e, -, h⟩ | ⟨hs, -, h⟩ <;> rw [h]
  · exact .refused hs
  · exact .failed _ _ _ e
  · exact .passed _ _ _ _ hs

theorem closeOp_end (s : State) : TransportEnd True .closed s (closeOp s) := by
  rcases closeOp_cases s with ⟨e, -, h⟩ | ⟨-, h⟩ <;> rw [h]
  · exact .failed _ _ _ e
  · exact .passed _ _ _ s.res trivial

namespace TransportEnd

variable {admitted : Prop} {after : Session} {s : State} {p : OpResult × State}

/-- `Ok` is given only where the operation is admitted, and moves the session. -/
theorem sess_of_ok (k : TransportEnd admitted after s p) {x : OpValue} (h : p.1 = .ok x) :
    admitted ∧ p.2.sess = after := by
  cases k with
  | refused | failed => cases h
  | passed _ _ _ _ hs => exact ⟨hs, rfl⟩

/-- An error closes the session (R139). -/
theorem sess_of_err (k : TransportEnd admitted after s p) {e : ErrKind} (h : p.1 = .err e) : p.2.sess = .closed := by
  cases k with
  | refused | passed => cases h
  | failed => rfl

/-- `ERR` and `STATUS` tell this operation's outcome alone: its start clears them, an error latches them, a refusal leaves
them (R145). -/
theorem flags (k : TransportEnd admitted after s p) :
    (∀ x, p.1 = .ok x → p.2.err = 0 ∧ p.2.status = 0) ∧
    (∀ e, p.1 = .err e → p.2.err = errCode e ∧ p.2.status = statusLeft e) ∧
    (∀ r, p.1 = .refused r → p.2.err = s.err ∧ p.2.status = s.status) := by
  cases k with
  | refused => exact ⟨nofun, nofun, fun _ _ => ⟨rfl, rfl⟩⟩
  | failed _ _ _ e => exact ⟨nofun, fun e' h => by cases h; exact ⟨rfl, rfl⟩, nofun⟩
  | passed => exact ⟨fun _ _ => ⟨rfl, rfl⟩, nofun, nofun⟩

end TransportEnd

/-- Every transport instruction ends in one of these ways. -/
theorem instrOp_end {i : Instr} (h : i = .verify ∨ i = .init ∨ (∃ m, isRead i m) ∨ i = .close) (s : State) :
    ∃ admitted after, TransportEnd admitted after s (instrOp i s) := by
  rcases h with rfl | rfl | ⟨m, hm⟩ | rfl
  · exact ⟨_, _, verifyOp_end s⟩
  · exact ⟨_, _, initOp_end s⟩
  · rw [instrOp_of_isRead i m s hm]
    exact ⟨_, _, readOp_end m s⟩
  · exact ⟨_, _, closeOp_end s⟩

/-- Settles O27: the flags are those of the operation's end (`TransportEnd.flags`), which its return leaves. -/
theorem errorFlagsArePerOperation : Obligations.ErrorFlagsArePerOperation := by
  intro i s t hb hi he
  rw [exec_idle i s hb] at he
  cases he
  obtain ⟨_, _, hend⟩ := instrOp_end hi (s.setBusy true)
  simp only [returned_lastRet, Option.some.injEq]
  exact hend.flags

/-! ### The table of the session (R131) -/

/-- A return leaves the session as the operation's work left it. -/
@[simp] theorem returned_sess (p : OpResult × State) : (returned p).sess = p.2.sess := rfl

/-- Every way `COLLECT` can end leaves the session closed: its last transport operation failed or was `CLOSE`. -/
theorem collectOp_sess (s : State) : (collectOp s).2.sess = .closed := by
  have h := collectOp_cases s
  generalize collectOp s = p at h
  cases h with
  | degraded | atVerify | atInit | atRead | atClose | complete => rfl

/-- An error of an instruction that uses the channel closes the session (R139). -/
theorem instrOp_sess_of_err {i : Instr} {s : State} {e : ErrKind} (hi : usesChannel i) (h : (instrOp i s).1 = .err e) :
    (instrOp i s).2.sess = .closed := by
  by_cases hc : i = .collect
  · subst hc
    exact collectOp_sess s
  · obtain ⟨_, _, hend⟩ := instrOp_end (i := i) (by unfold usesChannel at hi; tauto) s
    exact hend.sess_of_err h

/-- Settles O23: an instruction that does not use the channel, or is refused, has no move of the session; the rows of the
table are the ends of the operations that use it. -/
theorem sessionMovesOnlyByTheTable : Obligations.SessionMovesOnlyByTheTable := by
  intro i s t hb he
  rw [exec_idle i s hb] at he
  cases he
  simp only [returned_lastRet, returned_sess, Option.some.injEq]
  refine ⟨fun hi => (instrOp_same i (s.setBusy true) hi).sess, fun r h => ?_, fun hi e h => instrOp_sess_of_err hi h,
    fun x h => ⟨?_, ?_, ?_, ?_, ?_⟩⟩
  · rw [instrOp_refused i _ r h]
    rfl
  · rintro rfl
    exact ((verifyOp_end (s.setBusy true)).sess_of_ok h).2
  · rintro rfl
    exact (initOp_end (s.setBusy true)).sess_of_ok h
  · rintro ⟨m, hm⟩
    rw [instrOp_of_isRead i m _ hm] at h ⊢
    exact (readOp_end m (s.setBusy true)).sess_of_ok h
  · rintro rfl
    exact ((closeOp_end (s.setBusy true)).sess_of_ok h).2
  · rintro rfl
    exact collectOp_sess (s.setBusy true)

/-! ### The trace port (R146, R182) -/

theorem dumpedBy_append (a b : List ChanEvent) : dumpedBy (a ++ b) = dumpedBy a ++ dumpedBy b := by
  induction a with
  | nil => rfl
  | cons e es ih => cases e <;> simp [dumpedBy, ih]

/-- The sequences presented are those of the writes and of the reads, in order. -/
theorem dumpedBy_eq_filterMap {f : ChanEvent → Option (List Byte)} (hwrite : ∀ b, f (.write b) = some b)
    (hread : ∀ t b, f (.read t b) = some b) (hsettle : f .settle = none) (hreset : f .reset = none)
    (log : List ChanEvent) : dumpedBy log = log.filterMap f := by
  induction log with
  | nil => rfl
  | cons e es ih => cases e <;> simp [dumpedBy, ih, hwrite, hread, hsettle, hreset]

/-- From `s` on, with `CFG_DUMP` as it was, the trace port was given what passed on the channel, or nothing. -/
structure DumpedSince (s t : State) : Prop where
  cfgDump : t.cfgDump = s.cfgDump
  log : ∃ log, t.chanLog = s.chanLog ++ log ∧ t.trace = s.trace ++ if s.cfgDump then dumpedBy log else []

theorem DumpedSince.refl (s : State) : DumpedSince s s :=
  ⟨rfl, [], (List.append_nil _).symm, by simp [dumpedBy]⟩

/-- An exchange presents its frame and its reply (R146). -/
theorem DumpedSince.exchanged {s x : State} (h : DumpedSince s x) (payload : List Byte) (v : Variant) (t : Timeout) :
    DumpedSince s (x.exchanged payload v t) := by
  obtain ⟨hdump, log, hlog, htrace⟩ := h
  refine ⟨hdump, log ++ [.write (frameOf (x.cfgAddr :: payload)), .settle, .read t x.chanReply], ?_, ?_⟩
  · rw [← List.append_assoc, ← hlog]
    rfl
  · cases hd : s.cfgDump <;>
      simp [State.exchanged, hdump, htrace, hd, dumpedBy_append, dumpedBy]

/-- Every move of an operation uses the channel and the trace port together or not at all. -/
theorem dumpedSince_keptByMoves (s : State) : KeptByMoves (DumpedSince s) where
  pure i x hi h :=
    have hs := instrOp_same i x hi
    ⟨hs.cfgDump.trans h.cfgDump, by rw [hs.chanLog, hs.trace]; exact h.log⟩
  refused _ h := { h with }
  start _ h := { h with }
  step _ _ _ h := { h with }
  passed payload t _ _ _ h := { h.exchanged payload .status t with }
  read m _ h := { h.exchanged (measPayload m) (measVariant m) .reply with }
  failed payload v t _ _ _ _ h := { h.exchanged payload v t with }

/-- Settles O46: by the moves of an operation (`KeptByMoves`). -/
theorem frameDumpShowsEveryTransfer : Obligations.FrameDumpShowsEveryTransfer := by
  intro i s t he
  obtain ⟨log, hlog, htrace⟩ :=
    ((dumpedSince_keptByMoves s).exec (fun _ _ h => { h with }) (fun _ _ h => { h with }) (.refl s) he).log
  refine ⟨log, hlog, ?_⟩
  rw [htrace]
  congr 2
  exact dumpedBy_eq_filterMap (fun _ => rfl) (fun _ _ => rfl) rfl rfl log

end Sys2Proof.Machine

/-! # Proofs: the Reading Orchestrator (45_orchestrator.md)

First `COLLECT` beside the host program it stands for: operation by operation the two states agree but for `STEP`, `BUSY` and
the outcomes given back (`SameButStep`). The other statements are read off the ways `COLLECT` can end (`Collected`), by what
each has added to the channel's record (`Sent`) and left in `RES`. -/

namespace Sys2Proof.Machine

/-! ### The outcomes (R160) -/

@[simp] theorem replyError_nil (v : Variant) (silence : ErrKind) : replyError v silence [] = some silence := rfl

/-- After `VERIFY`, silence is `MidSessionTimeout`: no reply raises `ChannelTimeout` (R130, R161). -/
theorem replyError_ne_channelTimeout {v : Variant} {e : ErrKind} {b : List Byte}
    (h : replyError v .midSessionTimeout b = some e) : e ≠ .channelTimeout := by
  rcases replyError_kinds v _ e b h with ⟨-, rfl⟩ | rfl | rfl | ⟨-, code, -, rfl⟩ <;> exact nofun

theorem exec_collect_idle {s : State} (hb : s.busy = false) :
    exec .collect s = .next (returned (collectOp (s.setBusy true))) :=
  exec_idle _ s hb

theorem collectOp_outcomes (s : State) :
    (collectOp s).1 = .ok .complete ∨ (collectOp s).1 = .ok .allZero ∨
      ∃ e, e ≠ .channelTimeout ∧ (collectOp s).1 = .err e := by
  have hc := collectOp_cases s
  generalize collectOp s = p at hc
  cases hc with
  | degraded => exact .inr (.inl rfl)
  | atVerify e _ he => exact .inr (.inr ⟨e, he, rfl⟩)
  | atInit e _ h | atRead _ _ _ e _ _ _ _ h | atClose e _ _ _ h =>
    exact .inr (.inr ⟨e, replyError_ne_channelTimeout h, rfl⟩)
  | complete => exact .inl rfl

/-- `ChannelTimeout` is never returned (R160). -/
theorem collectOp_ne_channelTimeout (s : State) : (collectOp s).1 ≠ .err .channelTimeout := by
  rcases collectOp_outcomes s with h | h | ⟨e, he, h⟩ <;> rw [h]
  · exact nofun
  · exact nofun
  · simpa using he

/-- Settles O38: refused while another operation runs, else one of the outcomes of `collectOp`. -/
theorem collectOutcomes : Obligations.CollectOutcomes := by
  intro s
  cases hb : s.busy with
  | true => exact ⟨_, exec_busy _ s hb, fun _ => by simp [State.lastRet, State.refusedWith], nofun⟩
  | false =>
    refine ⟨_, exec_collect_idle hb, nofun, fun _ => ?_⟩
    simpa using collectOp_outcomes (s.setBusy true)

/-! ### The host program that `COLLECT` stands for (R158) -/

/-- The states agree in every register but `STEP` and `BUSY`, and in every record but the outcomes given back
(R21, R158). -/
def SameButStep (a b : State) : Prop := ∃ k o c, b = { a with step := k, rets := o, busy := c }

/-- An operation that does not use the channel reads none of the three. -/
theorem sameButStep_dataOp {op : Op} (h : DataOp op) (a b : State) (hab : SameButStep a b) :
    Alike SameButStep (op a) (op b) := by
  obtain ⟨k, o, c, rfl⟩ := hab
  cases h with
  | refuse | crc | decode | build => exact ⟨rfl, k, o, c, rfl⟩
  | validate v bytes =>
    simp only [validateOp, State.crcChecked, State.rxBytes_putRx]
    split <;> exact ⟨rfl, k, o, c, rfl⟩

theorem sameButStep_moves : RelatedByMoves SameButStep where
  reply := by rintro a b ⟨k, o, c, rfl⟩; rfl
  sess := by rintro a b ⟨k, o, c, rfl⟩; rfl
  pure i a b hi h := sameButStep_dataOp (instrOp_dataOp i hi) a b h
  refused := by rintro a b ⟨k, o, c, rfl⟩; exact ⟨k, o, c, rfl⟩
  start := by rintro a b ⟨k, o, c, rfl⟩; exact ⟨k, o, c, rfl⟩
  step := by rintro n a b ⟨k, o, c, rfl⟩; exact ⟨_, o, c, rfl⟩
  setSess := by rintro x a b ⟨k, o, c, rfl⟩; exact ⟨k, o, c, rfl⟩
  exchanged := by rintro payload v t a b ⟨k, o, c, rfl⟩; exact ⟨k, o, c, rfl⟩
  delivered := by rintro m x a b ⟨k, o, c, rfl⟩; exact ⟨k, o, c, rfl⟩
  failed := by rintro payload v t e a b ⟨k, o, c, rfl⟩; exact ⟨k, o, c, rfl⟩

namespace SameButStep

variable {a b : State}

theorem setStep_left (h : SameButStep a b) (n : Nat) : SameButStep (a.setStep n) b := by
  obtain ⟨k, o, c, rfl⟩ := h
  exact ⟨k, o, c, rfl⟩

theorem setBusy_right (h : SameButStep a b) (x : Bool) : SameButStep a (b.setBusy x) := by
  obtain ⟨k, o, c, rfl⟩ := h
  exact ⟨k, o, x, rfl⟩

theorem returned_left {p : OpResult × State} (h : SameButStep p.2 b) : SameButStep (returned p) b := by
  obtain ⟨k, o, c, rfl⟩ := h
  exact ⟨k, o, c, rfl⟩

theorem returned_right {p : OpResult × State} (h : SameButStep a p.2) : SameButStep a (returned p) := by
  obtain ⟨k, o, c, h⟩ := h
  exact ⟨k, o ++ [p.1], false, by rw [returned, h]; rfl⟩

/-- The agreement as the statement puts it, where both are at rest. -/
theorem eq_of_idle (h : SameButStep a b) (hb : a.busy = b.busy) : { a with step := b.step, rets := b.rets } = b := by
  obtain ⟨k, o, c, rfl⟩ := h
  obtain rfl : a.busy = c := hb
  rfl

end SameButStep

/-- One step of a host program: what its operation comes to decides whether the next one is issued. -/
theorem runProgram_cons (i : Instr) (is : List Instr) {u : State} (hb : u.busy = false) :
    runProgram (i :: is) u =
      match (instrOp i (u.setBusy true)).1 with
      | .ok _ => runProgram is (returned (instrOp i (u.setBusy true)))
      | _ => some (returned (instrOp i (u.setBusy true))) := by
  simp only [runProgram, exec_idle i u hb, returned_lastRet]
  cases (instrOp i (u.setBusy true)).1 <;> rfl

/-- An operation as a step of `COLLECT`: at `STEP` `k`, and `rest` after it if it ends `Ok` (R147). -/
def andThen (k : Nat) (op rest : Op) : Op := fun s =>
  match op (s.setStep k) with
  | (.ok _, s') => rest s'
  | stopped => stopped

/-- A part of `COLLECT` ends as a host program that ended with the outcome `last`: `Ok` is `Ok(Complete)`. -/
def endsAs (r : OpResult) (last : Option OpResult) : Prop :=
  match last with
  | some (.ok _) => r = .ok .complete
  | other => other = some r

/-- The end `p` of a part of `COLLECT` is that of the host program `is` run from `u`, where `STEP` stays as it was. -/
def EndsLike (p : OpResult × State) (is : List Instr) (u : State) : Prop :=
  ∃ u', runProgram is u = some u' ∧ u'.step = u.step ∧ u'.busy = false ∧ SameButStep p.2 u' ∧ endsAs p.1 u'.lastRet

/-- `op` does as the host program `is`, wherever the operation before has ended `Ok`. -/
def DoesAs (op : Op) (is : List Instr) : Prop :=
  ∀ a u x, SameButStep a u → u.busy = false → u.lastRet = some (.ok x) → EndsLike (op a) is u

/-- Success is the end of the program. -/
theorem doesAs_nil : DoesAs (fun s => (.ok .complete, s.setStep 14)) [] := fun _ u _ hsame hb hlast =>
  ⟨u, rfl, rfl, hb, hsame.setStep_left 14, by simp [endsAs, hlast]⟩

/-- One operation of `COLLECT` beside the same instruction of the program: alike they end, and both go on or both stop. -/
theorem endsLike_cons {i : Instr} (hi : i ≠ .collect) (k : Nat) {rest : Op} {is : List Instr} (hrest : DoesAs rest is)
    {a u : State} (hsame : SameButStep a u) (hb : u.busy = false) : EndsLike (andThen k (instrOp i) rest a) (i :: is) u := by
  have halike := sameButStep_moves.instrOp i _ _ ((hsame.setStep_left k).setBusy_right true)
  have hstep : (instrOp i (u.setBusy true)).2.step = u.step := instrOp_step i (u.setBusy true) hi
  unfold EndsLike
  rw [runProgram_cons i is hb, andThen]
  generalize instrOp i (a.setStep k) = p at halike
  generalize instrOp i (u.setBusy true) = q at halike hstep
  obtain ⟨r, a'⟩ := p
  obtain ⟨r', u'⟩ := q
  obtain ⟨hout, hend⟩ := halike
  obtain rfl : r = r' := hout
  have hend : SameButStep a' (returned (r, u')) := SameButStep.returned_right hend
  cases r with
  | ok x =>
    obtain ⟨v, hrun, hv, hrest⟩ := hrest a' _ x hend rfl (returned_lastRet _)
    exact ⟨v, hrun, hv.trans hstep, hrest⟩
  | err | refused => exact ⟨_, rfl, hstep, rfl, hend, by simp [endsAs]⟩

theorem doesAs_cons {i : Instr} (hi : i ≠ .collect) (k : Nat) {rest : Op} {is : List Instr} (hrest : DoesAs rest is) :
    DoesAs (andThen k (instrOp i) rest) (i :: is) := fun _ _ _ hsame hb _ => endsLike_cons hi k hrest hsame hb

theorem collectClose_doesAs : DoesAs collectClose [.close] := doesAs_cons (i := .close) nofun 13 doesAs_nil

theorem collectReads_doesAs (ms : List Meas) : DoesAs (collectReads ms) (ms.map readInstrOf ++ [.close]) := by
  induction ms with
  | nil => exact collectClose_doesAs
  | cons m ms ih =>
    have hread : collectReads (m :: ms) = andThen (2 + measNumber m) (instrOp (readInstrOf m)) (collectReads ms) := by
      cases m <;> rfl
    rw [hread]
    exact doesAs_cons (by cases m <;> exact nofun) _ ih

theorem collectInit_doesAs : DoesAs collectInit (.init :: (allMeas.map readInstrOf ++ [.close])) :=
  doesAs_cons (i := .init) nofun 2 (collectReads_doesAs allMeas)

/-- `ChannelTimeout` is made the degraded return `Ok(AllZero)` (R150). -/
def degraded (p : OpResult × State) : OpResult × State :=
  match p.1 with
  | .err .channelTimeout => (.ok .allZero, p.2.setStep 14)
  | _ => p

theorem degraded_of_ne {p : OpResult × State} (h : p.1 ≠ .err .channelTimeout) : degraded p = p := by
  unfold degraded
  split
  · contradiction
  · rfl

/-- `COLLECT` is `VERIFY` from zeroed results and what follows it; `VERIFY` itself clears the flags (R130, R147), and nothing
after it raises `ChannelTimeout`. -/
theorem collectOp_eq_degraded (s : State) : collectOp s = degraded (andThen 1 verifyOp collectInit s.zeroRes) := by
  have hverify : verifyOp (s.collectStart.setStep 1) = verifyOp (s.zeroRes.setStep 1) := rfl
  have hne := collectOp_ne_channelTimeout s
  unfold collectOp at hne ⊢
  rw [hverify] at hne ⊢
  unfold andThen
  generalize verifyOp (s.zeroRes.setStep 1) = p at hne ⊢
  obtain ⟨r, s'⟩ := p
  cases r with
  | ok x => exact (degraded_of_ne hne).symm
  | err e => cases e <;> rfl
  | refused => rfl

theorem SameButStep.degraded_left {p : OpResult × State} {u : State} (h : SameButStep p.2 u) :
    SameButStep (degraded p).2 u := by
  unfold degraded
  split
  · exact h.setStep_left 14
  · exact h

/-- Settles O33: `COLLECT`, operation by operation beside the program (`EndsLike`), ends as it does; the degraded return is
made of its outcome. -/
theorem collectEqualsHostProgram : Obligations.CollectEqualsHostProgram := by
  intro s hb
  have hstart : SameButStep (s.setBusy true).zeroRes s.zeroRes := ⟨s.step, s.rets, s.busy, rfl⟩
  have hprogram : EndsLike (andThen 1 verifyOp collectInit (s.setBusy true).zeroRes) collectProgram s.zeroRes :=
    endsLike_cons (i := .verify) nofun 1 collectInit_doesAs hstart hb
  obtain ⟨u, hrun, hstep, hbusy, hsame, hends⟩ := hprogram
  refine ⟨_, u, exec_collect_idle hb, hrun, hstep, ?_⟩
  rw [returned_lastRet, collectOp_eq_degraded]
  generalize andThen 1 verifyOp collectInit (s.setBusy true).zeroRes = p at hsame hends
  obtain ⟨r, t⟩ := p
  refine ⟨hsame.degraded_left.returned_left.eq_of_idle hbusy.symm, ?_⟩
  cases hlast : u.lastRet with
  | none => simp [endsAs, hlast] at hends
  | some last =>
    rw [hlast] at hends
    cases last with
    | ok x =>
      obtain rfl : r = .ok .complete := hends
      rfl
    | err e =>
      obtain rfl : r = .err e := (Option.some.inj hends).symm
      cases e <;> rfl
    | refused e =>
      obtain rfl : r = .refused e := (Option.some.inj hends).symm
      rfl

/-! ### The degraded return (R150, R174) -/

/-- Settles O34: with no reply only the degraded end is left, and every other end has another outcome. -/
theorem collectDegradedReturn : Obligations.CollectDegradedReturn := by
  intro s hb
  refine ⟨_, exec_idle _ s hb, ?_⟩
  rw [returned_rets, returned_lastRet]
  have hc := collectOp_cases (s.setBusy true)
  change Collected (s.setBusy true) (instrOp .collect (s.setBusy true)) at hc
  generalize instrOp .collect (s.setBusy true) = p at hc
  cases hc with
  | degraded h =>
    change s.chanReply = [] at h
    have hlog := congrArg (fun b => s.chanLog ++ [.write (frameOf [s.cfgAddr, 0x00]), .settle, .read .ch b]) h
    exact ⟨fun _ => ⟨hlog, rfl, rfl, rfl, rfl, rfl⟩, fun hne => absurd h hne⟩
  | atVerify e h he =>
    refine ⟨fun hs => ?_, fun _ => by simp⟩
    rw [State.chanReply_setBusy, hs, replyError_nil] at h
    exact absurd (Option.some.inj h).symm he
  | atInit _ h | atRead _ _ _ _ _ h | atClose _ h | complete h =>
    refine ⟨fun hs => ?_, fun _ => by simp⟩
    rw [State.chanReply_setBusy, hs, replyError_nil] at h
    cases h

/-! ### The frames sent (R148, R157) -/

/-- From `s` to `t`, with `CFG_ADDR` as it was, the channel was used for one exchange with each of the payloads, in order, and
for nothing else (R48, R49). -/
structure Sent (s : State) (payloads : List (List Byte)) (t : State) : Prop where
  cfgAddr : t.cfgAddr = s.cfgAddr
  reads : t.reads = s.reads + payloads.length
  chanIn : t.chanIn = s.chanIn.drop payloads.length
  log : ∃ log, t.chanLog = s.chanLog ++ log ∧ halfDuplex log ∧
    framesWritten log = payloads.map fun payload => frameOf (s.cfgAddr :: payload)

namespace Sent

variable {s x : State} {payloads : List (List Byte)}

theorem refl (s : State) : Sent s [] s :=
  ⟨rfl, rfl, rfl, [], (List.append_nil _).symm, rfl, rfl⟩

/-- One exchange more (R130). -/
theorem exchanged (h : Sent s payloads x) (payload : List Byte) (v : Variant) (t : Timeout) :
    Sent s (payloads ++ [payload]) (x.exchanged payload v t) where
  cfgAddr := h.cfgAddr
  reads := by simp [State.exchanged, h.reads, Nat.add_assoc]
  chanIn := by simp [State.exchanged, h.chanIn]
  log := by
    obtain ⟨log, hlog, hduplex, hframes⟩ := h.log
    refine ⟨log ++ [.write (frameOf (x.cfgAddr :: payload)), .settle, .read t x.chanReply], ?_, ?_, ?_⟩
    · rw [← List.append_assoc, ← hlog]
      rfl
    · rw [halfDuplex, busRun_append, hduplex]
      rfl
    · rw [framesWritten_append, hframes, h.cfgAddr, List.map_append]
      rfl

/-- The reads that pass are an exchange each. -/
theorem readsPassed (h : Sent s payloads x) (ms : List Meas) :
    Sent s (payloads ++ ms.map measPayload) (x.readsPassed ms) := by
  induction ms generalizing x payloads with
  | nil => simpa [State.readsPassed] using h
  | cons m ms ih =>
    have hm : Sent s (payloads ++ [measPayload m]) (x.readPassed m) :=
      { Sent.exchanged (x := x.setStep (2 + measNumber m)) { h with } (measPayload m) (measVariant m) .reply with }
    simpa [State.readsPassed] using ih hm

theorem verifyPassed (s : State) : Sent s [testPayload] s.verifyPassed :=
  { Sent.exchanged (x := s.collectStart.setStep 1) { refl s with } testPayload .status .ch with }

/-- `COLLECT` before the read that follows the reads `pre`. -/
theorem collectAt (s : State) (pre : List Meas) :
    Sent s ([testPayload, initPayload] ++ pre.map measPayload) (s.collectAt pre) :=
  have hinit : Sent s [testPayload, initPayload] s.verifyPassed.initPassed :=
    { Sent.exchanged (x := s.verifyPassed.setStep 2) { verifyPassed s with } initPayload .status .reply with }
  hinit.readsPassed pre

end Sent

/-- The ten reads are the measurements in the order of their numbers (R148). -/
theorem measNumber_of_split {pre post : List Meas} {m : Meas} (h : allMeas = pre ++ m :: post) :
    measNumber m = pre.length + 1 := by
  have hnumber : ∀ i < 10, allMeas[i]?.map measNumber = some (i + 1) := by decide
  have hlength : allMeas.length = 10 := rfl
  have hi : pre.length < 10 := by
    rw [← hlength, h]
    simp
  simpa [h] using hnumber pre.length hi

/-- Every way `COLLECT` can end has sent the frames of a first part of the session, and at least the first. -/
theorem collectOp_sent (s : State) :
    ∃ payloads, payloads ≠ [] ∧ payloads <+: sessionPayloads ∧ Sent s payloads (collectOp s).2 := by
  have hc := collectOp_cases s
  generalize collectOp s = p at hc
  cases hc with
  | degraded | atVerify e =>
    exact ⟨[testPayload], nofun, ⟨_, rfl⟩, { Sent.verifyPassed s with }⟩
  | atInit e =>
    exact ⟨[testPayload, initPayload], nofun, ⟨_, rfl⟩,
      { (Sent.verifyPassed s).exchanged initPayload .status .reply with }⟩
  | atRead pre m post e hm =>
    refine ⟨[testPayload, initPayload] ++ pre.map measPayload ++ [measPayload m], by simp,
      ⟨post.map measPayload ++ [closePayload], by simp [sessionPayloads, hm]⟩,
      { (Sent.collectAt s pre).exchanged (measPayload m) (measVariant m) .reply with }⟩
  | atClose e | complete =>
    exact ⟨sessionPayloads, nofun, List.prefix_rfl,
      { (Sent.collectAt s allMeas).exchanged closePayload .status .reply with }⟩

/-- Settles O35: the frames of a first part of the session are the first `n` of the thirteen. -/
theorem collectSendsAPrefixOfTheSequence : Obligations.CollectSendsAPrefixOfTheSequence := by
  intro s hb
  obtain ⟨payloads, hne, hprefix, hsent⟩ := collectOp_sent (s.setBusy true)
  refine ⟨_, payloads.length, exec_idle _ s hb, List.length_pos_iff.mpr hne, hprefix.length_le, ?_, hsent.reads⟩
  obtain ⟨log, hlog, hduplex, hframes⟩ := hsent.log
  refine ⟨log, hlog, hduplex, ?_⟩
  rw [hframes, sessionFrames, ← List.map_take, ← List.prefix_iff_eq_take.mp hprefix]
  rfl

/-! ### The results (R126, R153, R156) -/

/-- A register outside the groups of the reads made is zero, as `COLLECT` starts (R149). -/
theorem collectAt_res_of_not_read {pre : List Meas} {r : Fin 34} (s : State)
    (h : ∀ m ∈ pre, ¬(measDest m ≤ r.val ∧ r.val < measDest m + measCount m)) : (s.collectAt pre).res[r] = 0 := by
  rw [State.collectAt, readsPassed_res_other pre _ r h]
  exact Vector.getElem_replicate r.isLt

theorem measNumber_le (m : Meas) : measNumber m ≤ 10 := by
  cases m <;> decide

/-- The reads made before the read of `m` have smaller numbers. -/
theorem measNumber_lt_of_mem_split {pre post : List Meas} {m n : Meas} (h : allMeas = pre ++ m :: post) (hn : n ∈ pre) :
    measNumber n < measNumber m := by
  obtain ⟨before, after, rfl⟩ := List.append_of_mem hn
  have hnumber : measNumber n = before.length + 1 := measNumber_of_split (by simpa using h)
  rw [hnumber, measNumber_of_split h]
  simp

/-- What the failure of step `k` of `COLLECT` leaves (R151, R153, R156). -/
structure FailedAt (s : State) (e : ErrKind) (k : Nat) (t : State) : Prop where
  first : 1 ≤ k
  last : k ≤ 13
  step : t.step.toNat = k
  reads : t.reads = s.reads + k
  err : t.err = errCode e
  status : t.status = statusLeft e
  sess : t.sess = .closed
  res : ∀ (m : Meas) (r : Fin 34), measDest m ≤ r.val → r.val < measDest m + measCount m → k ≤ 2 + measNumber m →
    t.res[r] = 0

/-- The exchange of step `k` fails after `k - 1` exchanges that passed; it delivers nothing. -/
theorem FailedAt.exchangeFailed {s x : State} {payloads : List (List Byte)} {k : Nat} (h : Sent s payloads x)
    (hk : k = payloads.length + 1) (hlast : k ≤ 13)
    (hres : ∀ (m : Meas) (r : Fin 34), measDest m ≤ r.val → r.val < measDest m + measCount m →
      k ≤ 2 + measNumber m → x.res[r] = 0)
    (payload : List Byte) (v : Variant) (t : Timeout) (e : ErrKind) :
    FailedAt s e k ((x.setStep k).exchangeFailed payload v t e) where
  first := by omega
  last := hlast
  step := by
    show (BitVec.ofNat 4 k).toNat = k
    rw [BitVec.toNat_ofNat, Nat.mod_eq_of_lt (by omega)]
  reads := by
    show x.reads + 1 = _
    rw [h.reads, hk, Nat.add_assoc]
  err := rfl
  status := rfl
  sess := rfl
  res := hres

/-- A return changes nothing of it. -/
theorem FailedAt.returned {s : State} {e : ErrKind} {k : Nat} {p : OpResult × State} (h : FailedAt s e k p.2) :
    FailedAt s e k (returned p) :=
  { h with }

/-- An error of `COLLECT` is the failure of one of its steps. -/
theorem collectOp_failedAt {s : State} {e : ErrKind} (h : (collectOp s).1 = .err e) :
    ∃ k, FailedAt s e k (collectOp s).2 := by
  have hc := collectOp_cases s
  generalize collectOp s = p at hc h
  cases hc with
  | degraded | complete => cases h
  | atVerify e' =>
    cases h
    refine ⟨1, .exchangeFailed (x := s.collectStart) { Sent.refl s with } rfl (by decide) (fun _ r _ _ _ => ?_) _ _ _ _⟩
    exact Vector.getElem_replicate r.isLt
  | atInit e' =>
    cases h
    refine ⟨2, .exchangeFailed (Sent.verifyPassed s) rfl (by decide) (fun _ r _ _ _ => ?_) _ _ _ _⟩
    exact Vector.getElem_replicate r.isLt
  | atRead pre m post e' hm =>
    cases h
    have hnumber := measNumber_of_split hm
    have hlast := measNumber_le m
    refine ⟨2 + measNumber m, .exchangeFailed (Sent.collectAt s pre) (by simp; omega) (by omega)
      (fun n r hlo hhi hn => collectAt_res_of_not_read s fun m' hm' => ?_) _ _ _ _⟩
    have hlt := measNumber_lt_of_mem_split hm hm'
    exact measDest_disjoint n m' (by rintro rfl; omega) r.val ⟨hlo, hhi⟩
  | atClose e' =>
    cases h
    refine ⟨13, .exchangeFailed (Sent.collectAt s allMeas) rfl (by decide) (fun n _ _ _ hn => ?_) _ _ _ _⟩
    have hlast := measNumber_le n
    have hn : 13 ≤ 2 + measNumber n := hn
    omega

/-- Settles O37: an error is the failure of one step (`FailedAt`). -/
theorem collectFailureLeavesLaterGroupsZero : Obligations.CollectFailureLeavesLaterGroupsZero := by
  intro s hb
  refine ⟨_, exec_collect_idle hb, fun e he => ?_⟩
  rw [returned_lastRet, Option.some.injEq] at he
  obtain ⟨k, hf⟩ := (collectOp_failedAt he).imp fun _ h => h.returned
  generalize returned (collectOp (s.setBusy true)) = t at hf ⊢
  obtain rfl := hf.step
  exact ⟨hf.first, hf.last, hf.reads, hf.err, hf.status, hf.sess, hf.res⟩

/-! ### Thirteen answers that pass (R155) -/

/-- A reply that passes its checks is read whole: it is no longer than its variant (R59, R36). -/
theorem State.chanReply_of_passing {s : State} {b : List Byte} {rest : List (List Byte)} {v : Variant}
    {silence : ErrKind} (hin : s.chanIn = b :: rest) (h : replyError v silence b = none) : s.chanReply = b := by
  have hsize : b.length = variantSize v := by
    by_contra hne
    simp only [replyError, if_pos hne] at h
    split at h <;> cases h
  have hmax : variantSize v ≤ Config.rxMax := by cases v <;> decide
  simp only [State.chanReply, hin]
  exact List.take_of_length_le (by omega)

/-- The reply of a passing answer passes. -/
theorem State.replyError_chanReply {s : State} {b : List Byte} {rest : List (List Byte)} {v : Variant}
    {silence : ErrKind} (hin : s.chanIn = b :: rest) (h : replyError v silence b = none) :
    replyError v silence s.chanReply = none := by
  rw [chanReply_of_passing hin h, h]

theorem mem_allMeas (m : Meas) : m ∈ allMeas := by
  cases m <;> decide

/-- The group of a read holds the fields of its reply after all ten reads: the reads that follow have other groups (R26). -/
theorem collectAt_res_of_read {pre post : List Meas} {m : Meas} {r : Fin 34} (s : State)
    (h : allMeas = pre ++ m :: post) (hr : measDest m ≤ r.val ∧ r.val < measDest m + measCount m) :
    (s.collectAt allMeas).res[r].toNat = fieldRaw m (s.collectAt pre).chanReply (r.val - measDest m) := by
  have hnodup : (pre ++ m :: post).Nodup := h ▸ (by decide : allMeas.Nodup)
  have hpost : m ∉ post := (List.nodup_cons.mp (List.Nodup.of_append_right hnodup)).1
  have hall : s.collectAt allMeas = ((s.collectAt pre).readPassed m).readsPassed post := by
    rw [h]
    exact readsPassed_append pre (m :: post) _
  have hread : ((s.collectAt pre).readPassed m).res =
      groupWritten (measDest m) (responseRaws (parse (measVariant m) (s.collectAt pre).chanReply)) (s.collectAt pre).res :=
    rfl
  rw [hall, readsPassed_res_other post _ r fun n hn => measDest_disjoint m n (by rintro rfl; exact hpost hn) _ hr, hread,
    groupWritten_getElem, responseRaws_length, if_pos hr, responseRaws_getD m _ _ (by omega)]

/-- With all thirteen replies passing `complete` is the only end left (R155). -/
theorem collectOp_of_passing {s : State} (hv : replyError .status .channelTimeout s.chanReply = none)
    (hi : replyError .status .midSessionTimeout s.verifyPassed.chanReply = none)
    (hp : ∀ pre m post, allMeas = pre ++ m :: post →
      replyError (measVariant m) .midSessionTimeout (s.collectAt pre).chanReply = none)
    (hz : replyError .status .midSessionTimeout (s.collectAt allMeas).chanReply = none) :
    collectOp s = (.ok .complete,
      ((((s.collectAt allMeas).setStep 13).exchanged closePayload .status .reply).setSess .closed).setStep 14) := by
  have hc := collectOp_cases s
  generalize collectOp s = p at hc
  cases hc with
  | degraded h =>
    rw [h] at hv
    cases hv
  | atVerify _ h => exact absurd (hv.symm.trans h) nofun
  | atInit _ _ h => exact absurd (hi.symm.trans h) nofun
  | atRead pre m post _ hm _ _ _ h => exact absurd ((hp pre m post hm).symm.trans h) nofun
  | atClose _ _ _ _ h => exact absurd (hz.symm.trans h) nofun
  | complete => rfl

/-- Settles O36: each reply is the script's answer, read whole, so the sequence completes; the reads have filled `RES`. -/
theorem collectCompletesWithAllReadings : Obligations.CollectCompletesWithAllReadings := by
  intro s a b c reading rest hb hin ha hinit hreading hclose
  have hinitIn : (s.setBusy true).verifyPassed.chanIn = b :: (allMeas.map reading ++ c :: rest) := by
    rw [(Sent.verifyPassed _).chanIn]
    simp [hin]
  have hatIn (pre : List Meas) :
      ((s.setBusy true).collectAt pre).chanIn = (allMeas.map reading ++ c :: rest).drop pre.length := by
    rw [(Sent.collectAt _ pre).chanIn]
    simp [hin]
  have hreadIn {pre post : List Meas} {m : Meas} (hm : allMeas = pre ++ m :: post) :
      ((s.setBusy true).collectAt pre).chanIn = reading m :: (post.map reading ++ c :: rest) := by
    rw [hatIn, hm]
    simp
  have hcloseIn : ((s.setBusy true).collectAt allMeas).chanIn = c :: rest := hatIn allMeas
  have hres (m : Meas) (r : Fin 34) (hr : measDest m ≤ r.val ∧ r.val < measDest m + measCount m) :
      ((s.setBusy true).collectAt allMeas).res[r].toNat = fieldRaw m (reading m) (r.val - measDest m) := by
    obtain ⟨pre, post, hm⟩ := List.append_of_mem (mem_allMeas m)
    rw [← State.chanReply_of_passing (hreadIn hm) (hreading m)]
    exact collectAt_res_of_read _ hm hr
  have hrun := collectOp_of_passing (s := s.setBusy true) (State.replyError_chanReply hin ha)
    (State.replyError_chanReply hinitIn hinit) (fun _ m _ hm => State.replyError_chanReply (hreadIn hm) (hreading m))
    (State.replyError_chanReply hcloseIn hclose)
  have hsent := (Sent.collectAt (s.setBusy true) allMeas).exchanged closePayload .status .reply
  obtain ⟨log, hlog, -, hframes⟩ := hsent.log
  have hrets := returned_rets .collect s
  rw [instrOp, hrun] at hrets
  refine ⟨_, exec_collect_idle hb, ?_⟩
  rw [hrun]
  generalize (s.setBusy true).collectAt allMeas = x at hres hlog hcloseIn hrets
  exact ⟨hrets, rfl, rfl, rfl, rfl, congrArg List.tail hcloseIn, ⟨log, hlog, hframes⟩,
    fun m r hlo hhi => hres m r ⟨hlo, hhi⟩⟩

end Sys2Proof.Machine

/-! # Proofs: errors and refusals (60_exceptions.md) -/

namespace Sys2Proof.Machine

/-! ### Errors (R170) -/

theorem TransportEnd.exchangeFailed_of_err {admitted : Prop} {after : Session} {s : State} {p : OpResult × State}
    (k : TransportEnd admitted after s p) {e : ErrKind} (h : p.1 = .err e) :
    ∃ payload v t, p.2 = s.exchangeFailed payload v t e := by
  cases k with
  | refused | passed => cases h
  | failed payload v t =>
    cases h
    exact ⟨payload, v, t, rfl⟩

theorem Collected.exchangeFailed_of_err {s : State} {p : OpResult × State} (k : Collected s p) {e : ErrKind}
    (h : p.1 = .err e) : ∃ x payload v t, p.2 = State.exchangeFailed payload v t e x := by
  cases k with
  | degraded | complete => cases h
  | atVerify | atInit | atRead | atClose =>
    cases h
    exact ⟨_, _, _, _, rfl⟩

/-- An instruction that uses the channel returns an error only where an exchange has failed, and that was its last move. -/
theorem instrOp_exchangeFailed_of_err {i : Instr} {s : State} {e : ErrKind} (hi : usesChannel i)
    (h : (instrOp i s).1 = .err e) : ∃ x payload v t, (instrOp i s).2 = State.exchangeFailed payload v t e x := by
  by_cases hc : i = .collect
  · subst hc
    exact (collectOp_cases s).exchangeFailed_of_err h
  · obtain ⟨_, _, hend⟩ := instrOp_end (i := i) (by unfold usesChannel at hi; tauto) s
    exact ⟨s, hend.exchangeFailed_of_err h⟩

/-- Settles O26: the exchange that failed has latched the error, closed the session and ended its own phases; the return
leaves all four registers. -/
theorem errorsAbortTheSession : Obligations.ErrorsAbortTheSession := by
  intro i s t e hb hi he hret
  rw [exec_idle i s hb] at he
  cases he
  rw [returned_lastRet, Option.some.injEq] at hret
  obtain ⟨x, payload, v, t, hx⟩ := instrOp_exchangeFailed_of_err hi hret
  rw [returned, hx]
  refine ⟨?code, ?carried, rfl, rfl⟩
  case code =>
    show errCode e = _
    cases e <;> rfl
  case carried =>
    show statusLeft e = _
    cases e <;> rfl

/-! ### Refusals (R167) -/

/-- Settles O28: refused for `Busy`, or by an operation that did nothing but refuse (`instrOp_refused`). -/
theorem refusalWritesOnlyRfs : Obligations.RefusalWritesOnlyRfs := by
  intro i s t r he hret
  rcases exec_cases he with ⟨-, rfl⟩ | ⟨hb, rfl⟩
  · have hr : RefuseReason.busy = r := by simpa [State.lastRet, State.refusedWith] using hret
    rw [hr]
  · rw [returned_lastRet, Option.some.injEq] at hret
    rw [instrOp_refused i _ r hret, returned_refuse r s hb]

end Sys2Proof.Machine

/-! # Proofs: reset and hazards (70_reset_and_hazards.md)

What an echo of a command does (R196), from the rules' reading of a frame that is its own reply; then reset (R185, R186) and the
configuration writes (R194). -/

namespace Sys2Proof.Machine

/-! ### An echo of a command (R196) -/

/-- A frame that comes back as the reply passes the CRC check, so that its length decides, and in a status reply the command byte,
read as the status. -/
theorem replyError_frameOf (v : Variant) (silence : ErrKind) (addr cmd : Byte) (rest : List Byte) :
    replyError v silence (frameOf (addr :: cmd :: rest)) =
      if rest.length + 4 ≠ variantSize v then some .wrongResultSize
      else if v = .status ∧ cmd &&& 0x0F ≠ 0 then some (.protocolError ((cmd &&& 0x0F).setWidth 4))
      else none := by
  have hcrc := crcOk_frameOf (addr :: cmd :: rest)
  simp only [crcOk, coveredBytes, trailer, byteAt, beq_iff_eq] at hcrc
  have hcmd : (frameOf (addr :: cmd :: rest)).getD 1 0 = cmd := rfl
  simp only [replyError, hcrc, hcmd]
  simp

/-- Of the ten reads only the frequency's reply is as long as its command (R59, R61). -/
theorem replyError_echo_of_read (m : Meas) (addr : Byte) :
    replyError (measVariant m) .midSessionTimeout (frameOf (addr :: measPayload m)) =
      if m = .freq then none else some .wrongResultSize := by
  cases m <;> exact replyError_frameOf _ _ _ _ _

/-- Settles O25: each operation's own statement, on the reading of its echo. -/
theorem echoIsNotDetected : Obligations.EchoIsNotDetected := by
  intro s hb
  refine ⟨fun hr => ?verify, fun hr => ?close, fun hs hr => ?init, fun i m hi hs hr => ?read⟩
  case verify =>
    have h : replyError .status .channelTimeout s.chanReply = none := hr ▸ replyError_frameOf _ _ _ _ _
    exact ⟨_, (verifyCompletes s hb).1 h, by simp [State.lastRet]⟩
  case close =>
    have h : replyError .status .midSessionTimeout s.chanReply = some (.protocolError 2) :=
      hr ▸ replyError_frameOf _ _ _ _ _
    exact ⟨_, (closeCompletes s hb).2 _ h, State.failedWith_lastRet _ _⟩
  case init =>
    have h : replyError .status .midSessionTimeout s.chanReply = some .wrongResultSize :=
      hr ▸ replyError_frameOf _ _ _ _ _
    exact ⟨_, (initCompletes s hb).2.1 hs _ h, State.failedWith_lastRet _ _⟩
  case read =>
    have h := replyError_echo_of_read m s.cfgAddr
    rw [← hr] at h
    split at h
    next hm =>
      rw [if_pos hm]
      exact ⟨_, exec_isRead_of_replyError_none hi hb hs h, by simp [State.lastRet]⟩
    next hm =>
      rw [if_neg hm]
      exact ⟨_, (failedReadWritesNoResult i m s hi hb).1 hs _ h, State.failedWith_lastRet _ _⟩

/-! ### Reset in the middle of an operation (R185) -/

/-- The bytes written before the cut are the first of those the whole run of accesses writes. -/
theorem framesWritten_cutAccesses_prefix (whole part : Nat) (log : List ChanEvent) :
    (framesWritten (cutAccesses whole part log)).flatten <+: (framesWritten log).flatten := by
  induction log generalizing whole with
  | nil => cases whole <;> exact List.prefix_rfl
  | cons e es ih =>
    cases whole with
    | succ n =>
      have hcons (l : List ChanEvent) :
          (framesWritten (e :: l)).flatten = (framesWritten [e]).flatten ++ (framesWritten l).flatten := by
        rw [← List.flatten_append, ← framesWritten_append, List.singleton_append]
      rw [cutAccesses, hcons (cutAccesses n part es), hcons es, List.prefix_append_right_inj]
      exact ih n
    | zero =>
      cases e with
      | write bytes =>
        cases part with
        | zero => exact List.nil_prefix
        | succ part =>
          show (bytes.take (part + 1) ++ []) <+: bytes ++ (framesWritten es).flatten
          rw [List.append_nil]
          exact (List.take_prefix _ _).trans (List.prefix_append _ _)
      | settle | read | reset => exact List.nil_prefix

/-- What the host attempts while an operation runs changes nothing of what the operation puts on the channel (R28, R194). -/
theorem exec_attempts_chanLog (i : Instr) (s : State) (as : List Attempt) :
    ∃ done done' log, exec i s = .next done ∧ exec i (s.attempts as) = .next done' ∧
      done.chanLog = s.chanLog ++ log ∧ done'.chanLog = (s.attempts as).chanLog ++ log := by
  obtain ⟨r, f, o, h⟩ := s.attempts_eq as
  rw [h]
  obtain ⟨done, done', log, he, he', -, -, hlog, hlog'⟩ :=
    noHiddenAccumulatingState i s { s with rfs := r, freeReads := f, rets := o } rfl rfl rfl rfl rfl
  exact ⟨done, done', log, he, he', hlog, hlog'⟩

/-- A transfer that encodes an operation which reset cuts off: the operation would have come to `done`, and is abandoned. -/
theorem runCut_of_exec {w : PortWord} {i : Instr} {as : List Attempt} {s done : State} (hd : decode w = .ok i)
    (he : exec i (s.attempts as) = .next done) (whole part : Nat) :
    runCut w as whole part s = .next (State.abandoned whole part (s.attempts as) done) := by
  simp only [runCut, hd, he]

/-- Settles O44: the accesses of the operation are those it makes with nothing attempted, and what the cut keeps of them are their
first bytes. -/
theorem resetAbandonsAnOperation : Obligations.ResetAbandonsAnOperation := by
  intro s w i as whole part rest hp hd
  obtain ⟨done, done', log, he, he', hlog, hlog'⟩ := exec_attempts_chanLog i { s with port := rest } as
  have hstep : step s = .next (State.abandoned whole part (State.attempts as { s with port := rest }) done') := by
    rw [step_cons hp]
    exact runCut_of_exec hd he' whole part
  obtain ⟨r, f, o, has⟩ := State.attempts_eq as { s with port := rest }
  refine ⟨_, done, cutAccesses whole part log, log, he, hstep, ?regs, ?kept, hlog,
    framesWritten_cutAccesses_prefix whole part log⟩
  case regs => rw [has]; rfl
  case kept =>
    simp only [State.abandoned, State.afterReset, hlog', List.drop_left]
    rw [has]

/-! ### Reset at rest, and the configuration (R186, R194) -/

/-- Settles O43: reset writes the reset state's registers, whatever they held. -/
theorem resetLeavesTheResetValues : Obligations.ResetLeavesTheResetValues := fun _ _ hp =>
  ⟨_, step_cons hp, rfl, rfl, rfl, rfl, rfl, rfl, rfl, rfl, rfl, rfl, rfl, rfl⟩

/-- A write of `CFG_ADDR` at rest is accepted (R22, R194). -/
theorem State.hostWriteAddr_of_idle {s : State} (hb : s.busy = false) (v : Byte) :
    s.hostWriteAddr v = { s with cfgAddr := v }.giveBack (.ok .done) := by
  simp [State.hostWriteAddr, hb]

/-- A write of `CFG_DUMP` at rest is accepted (R23, R194). -/
theorem State.hostWriteDump_of_idle {s : State} (hb : s.busy = false) (v : Bool) :
    s.hostWriteDump v = { s with cfgDump := v }.giveBack (.ok .done) := by
  simp [State.hostWriteDump, hb]

/-- Settles O39: `BUSY` decides between the write and the refusal. -/
theorem configurationWritesOnlyWhenIdle : Obligations.ConfigurationWritesOnlyWhenIdle := by
  intro s rest v b
  refine ⟨fun hp hb => ?addr, fun hp hb => ?dump, fun hp hb => ?busy⟩
  case addr =>
    have hw := State.hostWriteAddr_of_idle (s := { s with port := rest }) hb v
    exact ⟨_, (step_cons hp).trans (congrArg Host.Outcome.next hw), rfl⟩
  case dump =>
    have hw := State.hostWriteDump_of_idle (s := { s with port := rest }) hb b
    exact ⟨_, (step_cons hp).trans (congrArg Host.Outcome.next hw), rfl⟩
  case busy =>
    have hstep : step s = .next (State.refusedWith .busy { s with port := rest }) := by
      rcases hp with hp | hp <;> rw [step_cons hp] <;> exact congrArg Host.Outcome.next (if_pos hb)
    exact ⟨_, hstep, rfl, by simp [State.lastRet, State.refusedWith]⟩

end Sys2Proof.Machine
